-- ==== Sys2Proof/Word.lean ====
section
/-!
DEFINITION. The word types of the machine (spec/00_scope.md R9, R10; spec/20_memory.md R80).
A register, the pc and an address are 32-bit vectors, a byte of memory is an 8-bit one.
-/

namespace Sys2Proof

/-- A register value, an address or a 32-bit instruction word: XLEN is 32 (00 R9). -/
abbrev Word := BitVec 32

/-- A 16-bit parcel or halfword (20 R85). -/
abbrev Half := BitVec 16

/-- A byte of memory (20 R80). -/
abbrev Byte := BitVec 8

end Sys2Proof
end

