-- ==== Sys2Proof/Config.lean ====
section
/-!
DEFINITION. What comes from outside the harts, one record a step, and the free value that stands for it
(log 3). The parameters that an implementation fixes are plain data of the state: see Machine/State.lean, `Platform`.
-/

namespace Sys2Proof

/-- Everything that one step may take from outside the hart that runs it. Nothing in the spec constrains these values
from step to step (log 3). -/
structure Inputs where
  /-- Level of the machine external interrupt input, shown as mip.MEIP (60 R440, 10 R50). -/
  meip : Bool
  /-- Level of the machine software interrupt input, shown as mip.MSIP (60 R440, 10 R50). -/
  msip : Bool
  /-- Level of the machine timer interrupt input, shown as mip.MTIP (60 R440, 10 R50). -/
  mtip : Bool
  /-- An interrupt that could be taken before this step's instruction waits for a later boundary (60 R443; log 29). -/
  interruptDeferred : Bool
  /-- The global monitor refuses this step's exclusive write for no visible reason (44 R259 (d); log 22). -/
  exclusiveRefused : Bool
  /-- The value a counting mcycle has after this step: the model is untimed, so any value (10 R59; log 9). -/
  cycle : BitVec 64
  /-- The value of the time counter, where a platform has the time CSRs (10 R60; log 21). -/
  time : BitVec 64
  /-- What a read of a trigger CSR gives (10 R64; log 19). -/
  csrDraw : Word
  /-- What a device answers to this step's data read: its low byte or halfword for a narrow load (20 R95, R97; log 13). -/
  deviceData : Word
  /-- What a device answers to this step's fetch, the byte at the pc least significant (20 R95, R97; log 13). -/
  deviceCode : Word
  /-- For each byte of the instruction fetched, which of the values that the byte has held since the last fence.i the
  fetch returns (20 R110; log 25). -/
  fetchPicks : List Nat
  deriving DecidableEq, Repr, Inhabited

/-- The inputs of the step number n: a free value, one for each step (log 3). -/
opaque Config.inputs : Nat → Inputs

end Sys2Proof
end

