-- ==== Sys2Proof/Machine/Memory.lean ====
section
/-!
DEFINITION. Memory: one space of 2^32 bytes (spec/20_memory.md R80), held as the list of the bytes that differ from what an
unlisted address reads as. Byte order is decided here and nowhere else (20 R83, R85).
-/

namespace Sys2Proof.Machine

/-- The memory that the harts share: (address, byte) pairs in one canonical form, see `Memory.wf`. -/
abbrev Memory := List Host.Cell

/-- What an address that the memory does not list reads as, after reset one to which `Platform.contents` gives no byte. The spec
leaves RAM after reset open (10 R77); DESIGN CHOICE (unsafe), log 11. -/
def Memory.unlisted : Byte := 0#8

/-- One byte of memory. -/
def Memory.byteAt (m : Memory) (a : Nat) : Byte :=
  match m with
  | [] => Memory.unlisted
  | (b, v) :: rest => if a = b then v else Memory.byteAt rest a

/-- The list without its entries for an address. -/
def Memory.erase (m : Memory) (a : Nat) : Memory :=
  match m with
  | [] => []
  | (b, v) :: rest => if a = b then Memory.erase rest a else (b, v) :: Memory.erase rest a

/-- A new entry put before the first greater address. -/
def Memory.insert (m : Memory) (a : Nat) (v : Byte) : Memory :=
  match m with
  | [] => [(a, v)]
  | (b, w) :: rest => if a < b then (a, v) :: (b, w) :: rest else (b, w) :: Memory.insert rest a v

/-- One byte written. Writing what an unlisted address reads as removes the entry. -/
def Memory.write (m : Memory) (a : Nat) (v : Byte) : Memory :=
  if v = Memory.unlisted then m.erase a else (m.erase a).insert a v

/-- The memory that holds the given contents and nothing else. The first cell of an address counts, and an address above the
address space does not. -/
def Memory.ofCells (cells : List Host.Cell) : Memory :=
  match cells with
  | [] => []
  | (a, v) :: rest => if a < 2 ^ 32 then (Memory.ofCells rest).write a v else Memory.ofCells rest

/-- The addresses from here on rise and lie above a bound; no entry equals what an unlisted address reads as. -/
def Memory.risesAbove (bound : Nat) (m : Memory) : Bool :=
  match m with
  | [] => true
  | (a, v) :: rest => decide (bound ≤ a) && decide (v ≠ Memory.unlisted) && decide (a < 2 ^ 32) &&
      Memory.risesAbove (a + 1) rest

/-- The canonical form: addresses strictly rising and below 2^32, no entry that an unlisted address would show as well. So
memories with the same contents are the same list. -/
def Memory.wf (m : Memory) : Bool := Memory.risesAbove 0 m

/-- The byte at an address. -/
def Memory.read8 (m : Memory) (a : Word) : Byte := m.byteAt a.toNat

/-- Two bytes, little-endian (20 R83): the byte at the lower address is the less significant. -/
def Memory.read16 (m : Memory) (a : Word) : Half := m.read8 (a + 1) ++ m.read8 a

/-- Four bytes, little-endian (20 R83). -/
def Memory.read32 (m : Memory) (a : Word) : Word := m.read8 (a + 3) ++ m.read8 (a + 2) ++ m.read8 (a + 1) ++ m.read8 a

end Sys2Proof.Machine
end

