-- ==== Sys2Proof/Syntax.lean ====
section
/-!
DEFINITION. The instructions of Hazard3 on RP2350: one constructor for each row of spec/opcode_table.json, in its order.
An operand is what the assembly text of the row's rule names (30 R140, R141). An immediate that is a byte offset is held
as that offset, with its low zero bits; Sys2Proof/WellFormed.lean checks them (30 R126, R127).
-/

namespace Sys2Proof

/-- A general register number, 0 to 31 (30 R125). -/
abbrev RegIdx := BitVec 5

/-- A three-bit register field n of a 16-bit form: it stands for x(8 + n) (30 R125, 10 R34). -/
abbrev CReg := BitVec 3

/-- A three-bit register field of cm.mvsa01 and cm.mva01s: s0 to s7 (30 R125, 10 R34). -/
abbrev SReg := BitVec 3

/-- The address of a control and status register (10 R44). -/
abbrev CsrAddr := BitVec 12

/-- An instruction's own bits: 16 or 32 of them (30 R121). -/
inductive Code where
  /-- A 16-bit instruction. -/
  | half (h : Half)
  /-- A 32-bit instruction. -/
  | word (w : Word)
  deriving DecidableEq, Repr

/-- The instructions. A comment on a constructor gives its mnemonic and its rule. -/
inductive Instr where
  -- Integer computation, register-register (40)
  /-- `add`: 40 R171. -/
  | add (rd rs1 rs2 : RegIdx)
  /-- `and`: 40 R172. -/
  | and (rd rs1 rs2 : RegIdx)
  /-- `or`: 40 R173. -/
  | or (rd rs1 rs2 : RegIdx)
  /-- `sll`: 40 R174. -/
  | sll (rd rs1 rs2 : RegIdx)
  /-- `slt`: 40 R175. -/
  | slt (rd rs1 rs2 : RegIdx)
  /-- `sltu`: 40 R176. -/
  | sltu (rd rs1 rs2 : RegIdx)
  /-- `sra`: 40 R177. -/
  | sra (rd rs1 rs2 : RegIdx)
  /-- `srl`: 40 R178. -/
  | srl (rd rs1 rs2 : RegIdx)
  /-- `sub`: 40 R179. -/
  | sub (rd rs1 rs2 : RegIdx)
  /-- `xor`: 40 R180. -/
  | xor (rd rs1 rs2 : RegIdx)
  -- Integer computation, register-immediate (40)
  /-- `addi`: 40 R182. -/
  | addi (rd rs1 : RegIdx) (imm : BitVec 12)
  /-- `andi`: 40 R183. -/
  | andi (rd rs1 : RegIdx) (imm : BitVec 12)
  /-- `ori`: 40 R184. -/
  | ori (rd rs1 : RegIdx) (imm : BitVec 12)
  /-- `slli`: 40 R185. -/
  | slli (rd rs1 : RegIdx) (shamt : BitVec 5)
  /-- `slti`: 40 R186. -/
  | slti (rd rs1 : RegIdx) (imm : BitVec 12)
  /-- `sltiu`: 40 R187. -/
  | sltiu (rd rs1 : RegIdx) (imm : BitVec 12)
  /-- `srai`: 40 R188. -/
  | srai (rd rs1 : RegIdx) (shamt : BitVec 5)
  /-- `srli`: 40 R189. -/
  | srli (rd rs1 : RegIdx) (shamt : BitVec 5)
  /-- `xori`: 40 R190. -/
  | xori (rd rs1 : RegIdx) (imm : BitVec 12)
  -- Upper immediates (40)
  /-- `auipc`: 40 R192. -/
  | auipc (rd : RegIdx) (imm : BitVec 20)
  /-- `lui`: 40 R193. -/
  | lui (rd : RegIdx) (imm : BitVec 20)
  -- Branches (41)
  /-- `beq`: 41 R201. -/
  | beq (rs1 rs2 : RegIdx) (offset : BitVec 13)
  /-- `bge`: 41 R202. -/
  | bge (rs1 rs2 : RegIdx) (offset : BitVec 13)
  /-- `bgeu`: 41 R203. -/
  | bgeu (rs1 rs2 : RegIdx) (offset : BitVec 13)
  /-- `blt`: 41 R204. -/
  | blt (rs1 rs2 : RegIdx) (offset : BitVec 13)
  /-- `bltu`: 41 R205. -/
  | bltu (rs1 rs2 : RegIdx) (offset : BitVec 13)
  /-- `bne`: 41 R206. -/
  | bne (rs1 rs2 : RegIdx) (offset : BitVec 13)
  -- Jumps (41)
  /-- `jal`: 41 R207. -/
  | jal (rd : RegIdx) (offset : BitVec 21)
  /-- `jalr`: 41 R208. -/
  | jalr (rd rs1 : RegIdx) (imm : BitVec 12)
  -- Loads (42)
  /-- `lb`: 42 R222. -/
  | lb (rd rs1 : RegIdx) (imm : BitVec 12)
  /-- `lbu`: 42 R223. -/
  | lbu (rd rs1 : RegIdx) (imm : BitVec 12)
  /-- `lh`: 42 R224. -/
  | lh (rd rs1 : RegIdx) (imm : BitVec 12)
  /-- `lhu`: 42 R225. -/
  | lhu (rd rs1 : RegIdx) (imm : BitVec 12)
  /-- `lw`: 42 R226. -/
  | lw (rd rs1 : RegIdx) (imm : BitVec 12)
  -- Stores (42)
  /-- `sb`: 42 R227. -/
  | sb (rs1 rs2 : RegIdx) (imm : BitVec 12)
  /-- `sh`: 42 R228. -/
  | sh (rs1 rs2 : RegIdx) (imm : BitVec 12)
  /-- `sw`: 42 R229. -/
  | sw (rs1 rs2 : RegIdx) (imm : BitVec 12)
  -- Multiply and divide (43)
  /-- `div`: 43 R241. -/
  | div (rd rs1 rs2 : RegIdx)
  /-- `divu`: 43 R242. -/
  | divu (rd rs1 rs2 : RegIdx)
  /-- `mul`: 43 R243. -/
  | mul (rd rs1 rs2 : RegIdx)
  /-- `mulh`: 43 R244. -/
  | mulh (rd rs1 rs2 : RegIdx)
  /-- `mulhsu`: 43 R245. -/
  | mulhsu (rd rs1 rs2 : RegIdx)
  /-- `mulhu`: 43 R246. -/
  | mulhu (rd rs1 rs2 : RegIdx)
  /-- `rem`: 43 R247. -/
  | rem (rd rs1 rs2 : RegIdx)
  /-- `remu`: 43 R248. -/
  | remu (rd rs1 rs2 : RegIdx)
  -- Atomic memory operations (44)
  /-- `amoadd.w`: 44 R262. -/
  | amoaddW (rd rs1 rs2 : RegIdx) (aq rl : Bool)
  /-- `amoand.w`: 44 R263. -/
  | amoandW (rd rs1 rs2 : RegIdx) (aq rl : Bool)
  /-- `amomax.w`: 44 R264. -/
  | amomaxW (rd rs1 rs2 : RegIdx) (aq rl : Bool)
  /-- `amomaxu.w`: 44 R265. -/
  | amomaxuW (rd rs1 rs2 : RegIdx) (aq rl : Bool)
  /-- `amomin.w`: 44 R266. -/
  | amominW (rd rs1 rs2 : RegIdx) (aq rl : Bool)
  /-- `amominu.w`: 44 R267. -/
  | amominuW (rd rs1 rs2 : RegIdx) (aq rl : Bool)
  /-- `amoor.w`: 44 R268. -/
  | amoorW (rd rs1 rs2 : RegIdx) (aq rl : Bool)
  /-- `amoswap.w`: 44 R269. -/
  | amoswapW (rd rs1 rs2 : RegIdx) (aq rl : Bool)
  /-- `amoxor.w`: 44 R270. -/
  | amoxorW (rd rs1 rs2 : RegIdx) (aq rl : Bool)
  -- Load-reserved and store-conditional (44)
  /-- `lr.w`: 44 R271. -/
  | lrW (rd rs1 : RegIdx) (aq rl : Bool)
  /-- `sc.w`: 44 R272. -/
  | scW (rd rs1 rs2 : RegIdx) (aq rl : Bool)
  -- Zba (46)
  /-- `sh1add`: 46 R321. -/
  | sh1add (rd rs1 rs2 : RegIdx)
  /-- `sh2add`: 46 R322. -/
  | sh2add (rd rs1 rs2 : RegIdx)
  /-- `sh3add`: 46 R323. -/
  | sh3add (rd rs1 rs2 : RegIdx)
  -- Zbb (46)
  /-- `andn`: 46 R325. -/
  | andn (rd rs1 rs2 : RegIdx)
  /-- `clz`: 46 R326. -/
  | clz (rd rs1 : RegIdx)
  /-- `cpop`: 46 R327. -/
  | cpop (rd rs1 : RegIdx)
  /-- `ctz`: 46 R328. -/
  | ctz (rd rs1 : RegIdx)
  /-- `max`: 46 R329. -/
  | max (rd rs1 rs2 : RegIdx)
  /-- `maxu`: 46 R330. -/
  | maxu (rd rs1 rs2 : RegIdx)
  /-- `min`: 46 R331. -/
  | min (rd rs1 rs2 : RegIdx)
  /-- `minu`: 46 R332. -/
  | minu (rd rs1 rs2 : RegIdx)
  /-- `orc.b`: 46 R333. -/
  | orcB (rd rs1 : RegIdx)
  /-- `orn`: 46 R334. -/
  | orn (rd rs1 rs2 : RegIdx)
  /-- `rev8`: 46 R335. -/
  | rev8 (rd rs1 : RegIdx)
  /-- `rol`: 46 R336. -/
  | rol (rd rs1 rs2 : RegIdx)
  /-- `ror`: 46 R337. -/
  | ror (rd rs1 rs2 : RegIdx)
  /-- `rori`: 46 R338. -/
  | rori (rd rs1 : RegIdx) (shamt : BitVec 5)
  /-- `sext.b`: 46 R339. -/
  | sextB (rd rs1 : RegIdx)
  /-- `sext.h`: 46 R340. -/
  | sextH (rd rs1 : RegIdx)
  /-- `xnor`: 46 R341. -/
  | xnor (rd rs1 rs2 : RegIdx)
  /-- `zext.h`: 46 R342. -/
  | zextH (rd rs1 : RegIdx)
  -- Zbs (47)
  /-- `bclr`: 47 R351. -/
  | bclr (rd rs1 rs2 : RegIdx)
  /-- `bclri`: 47 R352. -/
  | bclri (rd rs1 : RegIdx) (shamt : BitVec 5)
  /-- `bext`: 47 R353. -/
  | bext (rd rs1 rs2 : RegIdx)
  /-- `bexti`: 47 R354. -/
  | bexti (rd rs1 : RegIdx) (shamt : BitVec 5)
  /-- `binv`: 47 R355. -/
  | binv (rd rs1 rs2 : RegIdx)
  /-- `binvi`: 47 R356. -/
  | binvi (rd rs1 : RegIdx) (shamt : BitVec 5)
  /-- `bset`: 47 R357. -/
  | bset (rd rs1 rs2 : RegIdx)
  /-- `bseti`: 47 R358. -/
  | bseti (rd rs1 : RegIdx) (shamt : BitVec 5)
  -- Zbkb (47)
  /-- `brev8`: 47 R360. -/
  | brev8 (rd rs1 : RegIdx)
  /-- `pack`: 47 R361. -/
  | pack (rd rs1 rs2 : RegIdx)
  /-- `packh`: 47 R362. -/
  | packh (rd rs1 rs2 : RegIdx)
  /-- `unzip`: 47 R363. -/
  | unzip (rd rs1 : RegIdx)
  /-- `zip`: 47 R364. -/
  | zip (rd rs1 : RegIdx)
  -- Ordering (49)
  /-- `fence`: 49 R401. -/
  | fence (fm pred succ : BitVec 4) (rs1 rd : RegIdx)
  /-- `fence.tso`: 49 R402. -/
  | fenceTso
  /-- `fence.i`: 49 R403. -/
  | fenceI (imm : BitVec 12) (rs1 rd : RegIdx)
  -- Zicsr (49)
  /-- `csrrc`: 49 R406. -/
  | csrrc (rd : RegIdx) (csr : CsrAddr) (rs1 : RegIdx)
  /-- `csrrci`: 49 R407. -/
  | csrrci (rd : RegIdx) (csr : CsrAddr) (uimm : BitVec 5)
  /-- `csrrs`: 49 R408. -/
  | csrrs (rd : RegIdx) (csr : CsrAddr) (rs1 : RegIdx)
  /-- `csrrsi`: 49 R409. -/
  | csrrsi (rd : RegIdx) (csr : CsrAddr) (uimm : BitVec 5)
  /-- `csrrw`: 49 R410. -/
  | csrrw (rd : RegIdx) (csr : CsrAddr) (rs1 : RegIdx)
  /-- `csrrwi`: 49 R411. -/
  | csrrwi (rd : RegIdx) (csr : CsrAddr) (uimm : BitVec 5)
  -- System (49)
  /-- `ebreak`: 49 R413. -/
  | ebreak
  /-- `ecall`: 49 R414. -/
  | ecall
  /-- `mret`: 49 R415. -/
  | mret
  /-- `wfi`: 49 R416. -/
  | wfi
  -- C, quadrant 0 (45)
  /-- `c.addi4spn`: 45 R283. -/
  | cAddi4spn (rd : CReg) (uimm : BitVec 10)
  /-- `c.lw`: 45 R284. -/
  | cLw (rd rs1 : CReg) (uimm : BitVec 7)
  /-- `c.sw`: 45 R285. -/
  | cSw (rs1 rs2 : CReg) (uimm : BitVec 7)
  -- C, quadrant 1 (45)
  /-- `c.nop`: 45 R286. -/
  | cNop (imm : BitVec 6)
  /-- `c.addi`: 45 R287. -/
  | cAddi (rd : RegIdx) (imm : BitVec 6)
  /-- `c.jal`: 45 R288. -/
  | cJal (offset : BitVec 12)
  /-- `c.li`: 45 R289. -/
  | cLi (rd : RegIdx) (imm : BitVec 6)
  /-- `c.addi16sp`: 45 R290. -/
  | cAddi16sp (imm : BitVec 10)
  /-- `c.lui`: 45 R291. -/
  | cLui (rd : RegIdx) (imm : BitVec 6)
  /-- `c.srli`: 45 R292. -/
  | cSrli (rd : CReg) (shamt : BitVec 5)
  /-- `c.srai`: 45 R293. -/
  | cSrai (rd : CReg) (shamt : BitVec 5)
  /-- `c.andi`: 45 R294. -/
  | cAndi (rd : CReg) (imm : BitVec 6)
  /-- `c.sub`: 45 R295. -/
  | cSub (rd rs2 : CReg)
  /-- `c.xor`: 45 R296. -/
  | cXor (rd rs2 : CReg)
  /-- `c.or`: 45 R297. -/
  | cOr (rd rs2 : CReg)
  /-- `c.and`: 45 R298. -/
  | cAnd (rd rs2 : CReg)
  /-- `c.j`: 45 R299. -/
  | cJ (offset : BitVec 12)
  /-- `c.beqz`: 45 R300. -/
  | cBeqz (rs1 : CReg) (offset : BitVec 9)
  /-- `c.bnez`: 45 R301. -/
  | cBnez (rs1 : CReg) (offset : BitVec 9)
  -- C, quadrant 2 (45)
  /-- `c.slli`: 45 R302. -/
  | cSlli (rd : RegIdx) (shamt : BitVec 5)
  /-- `c.lwsp`: 45 R303. -/
  | cLwsp (rd : RegIdx) (uimm : BitVec 8)
  /-- `c.jr`: 45 R304. -/
  | cJr (rs1 : RegIdx)
  /-- `c.mv`: 45 R305. -/
  | cMv (rd rs2 : RegIdx)
  /-- `c.ebreak`: 45 R306. -/
  | cEbreak
  /-- `c.jalr`: 45 R307. -/
  | cJalr (rs1 : RegIdx)
  /-- `c.add`: 45 R308. -/
  | cAdd (rd rs2 : RegIdx)
  /-- `c.swsp`: 45 R309. -/
  | cSwsp (rs2 : RegIdx) (uimm : BitVec 8)
  -- Zcb (48)
  /-- `c.lbu`: 48 R371. -/
  | cLbu (rd rs1 : CReg) (uimm : BitVec 2)
  /-- `c.lhu`: 48 R372. -/
  | cLhu (rd rs1 : CReg) (uimm : BitVec 2)
  /-- `c.lh`: 48 R373. -/
  | cLh (rd rs1 : CReg) (uimm : BitVec 2)
  /-- `c.sb`: 48 R374. -/
  | cSb (rs1 rs2 : CReg) (uimm : BitVec 2)
  /-- `c.sh`: 48 R375. -/
  | cSh (rs1 rs2 : CReg) (uimm : BitVec 2)
  /-- `c.zext.b`: 48 R376. -/
  | cZextB (rd : CReg)
  /-- `c.sext.b`: 48 R377. -/
  | cSextB (rd : CReg)
  /-- `c.zext.h`: 48 R378. -/
  | cZextH (rd : CReg)
  /-- `c.sext.h`: 48 R379. -/
  | cSextH (rd : CReg)
  /-- `c.not`: 48 R380. -/
  | cNot (rd : CReg)
  /-- `c.mul`: 48 R381. -/
  | cMul (rd rs2 : CReg)
  -- Zcmp (48)
  /-- `cm.push`: 48 R385. -/
  | cmPush (rlist : BitVec 4) (spimm : BitVec 2)
  /-- `cm.pop`: 48 R386. -/
  | cmPop (rlist : BitVec 4) (spimm : BitVec 2)
  /-- `cm.popretz`: 48 R387. -/
  | cmPopretz (rlist : BitVec 4) (spimm : BitVec 2)
  /-- `cm.popret`: 48 R388. -/
  | cmPopret (rlist : BitVec 4) (spimm : BitVec 2)
  /-- `cm.mvsa01`: 48 R389. -/
  | cmMvsa01 (r1s r2s : SReg)
  /-- `cm.mva01s`: 48 R390. -/
  | cmMva01s (r1s r2s : SReg)
  deriving DecidableEq, Repr

/-- How many bytes the encoding of the instruction has: 4 or 2 (30 R121, 10 R36). -/
def Instr.length : Instr → Nat
  | .add _ _ _ => 4
  | .and _ _ _ => 4
  | .or _ _ _ => 4
  | .sll _ _ _ => 4
  | .slt _ _ _ => 4
  | .sltu _ _ _ => 4
  | .sra _ _ _ => 4
  | .srl _ _ _ => 4
  | .sub _ _ _ => 4
  | .xor _ _ _ => 4
  | .addi _ _ _ => 4
  | .andi _ _ _ => 4
  | .ori _ _ _ => 4
  | .slli _ _ _ => 4
  | .slti _ _ _ => 4
  | .sltiu _ _ _ => 4
  | .srai _ _ _ => 4
  | .srli _ _ _ => 4
  | .xori _ _ _ => 4
  | .auipc _ _ => 4
  | .lui _ _ => 4
  | .beq _ _ _ => 4
  | .bge _ _ _ => 4
  | .bgeu _ _ _ => 4
  | .blt _ _ _ => 4
  | .bltu _ _ _ => 4
  | .bne _ _ _ => 4
  | .jal _ _ => 4
  | .jalr _ _ _ => 4
  | .lb _ _ _ => 4
  | .lbu _ _ _ => 4
  | .lh _ _ _ => 4
  | .lhu _ _ _ => 4
  | .lw _ _ _ => 4
  | .sb _ _ _ => 4
  | .sh _ _ _ => 4
  | .sw _ _ _ => 4
  | .div _ _ _ => 4
  | .divu _ _ _ => 4
  | .mul _ _ _ => 4
  | .mulh _ _ _ => 4
  | .mulhsu _ _ _ => 4
  | .mulhu _ _ _ => 4
  | .rem _ _ _ => 4
  | .remu _ _ _ => 4
  | .amoaddW _ _ _ _ _ => 4
  | .amoandW _ _ _ _ _ => 4
  | .amomaxW _ _ _ _ _ => 4
  | .amomaxuW _ _ _ _ _ => 4
  | .amominW _ _ _ _ _ => 4
  | .amominuW _ _ _ _ _ => 4
  | .amoorW _ _ _ _ _ => 4
  | .amoswapW _ _ _ _ _ => 4
  | .amoxorW _ _ _ _ _ => 4
  | .lrW _ _ _ _ => 4
  | .scW _ _ _ _ _ => 4
  | .sh1add _ _ _ => 4
  | .sh2add _ _ _ => 4
  | .sh3add _ _ _ => 4
  | .andn _ _ _ => 4
  | .clz _ _ => 4
  | .cpop _ _ => 4
  | .ctz _ _ => 4
  | .max _ _ _ => 4
  | .maxu _ _ _ => 4
  | .min _ _ _ => 4
  | .minu _ _ _ => 4
  | .orcB _ _ => 4
  | .orn _ _ _ => 4
  | .rev8 _ _ => 4
  | .rol _ _ _ => 4
  | .ror _ _ _ => 4
  | .rori _ _ _ => 4
  | .sextB _ _ => 4
  | .sextH _ _ => 4
  | .xnor _ _ _ => 4
  | .zextH _ _ => 4
  | .bclr _ _ _ => 4
  | .bclri _ _ _ => 4
  | .bext _ _ _ => 4
  | .bexti _ _ _ => 4
  | .binv _ _ _ => 4
  | .binvi _ _ _ => 4
  | .bset _ _ _ => 4
  | .bseti _ _ _ => 4
  | .brev8 _ _ => 4
  | .pack _ _ _ => 4
  | .packh _ _ _ => 4
  | .unzip _ _ => 4
  | .zip _ _ => 4
  | .fence _ _ _ _ _ => 4
  | .fenceTso => 4
  | .fenceI _ _ _ => 4
  | .csrrc _ _ _ => 4
  | .csrrci _ _ _ => 4
  | .csrrs _ _ _ => 4
  | .csrrsi _ _ _ => 4
  | .csrrw _ _ _ => 4
  | .csrrwi _ _ _ => 4
  | .ebreak => 4
  | .ecall => 4
  | .mret => 4
  | .wfi => 4
  | .cAddi4spn _ _ => 2
  | .cLw _ _ _ => 2
  | .cSw _ _ _ => 2
  | .cNop _ => 2
  | .cAddi _ _ => 2
  | .cJal _ => 2
  | .cLi _ _ => 2
  | .cAddi16sp _ => 2
  | .cLui _ _ => 2
  | .cSrli _ _ => 2
  | .cSrai _ _ => 2
  | .cAndi _ _ => 2
  | .cSub _ _ => 2
  | .cXor _ _ => 2
  | .cOr _ _ => 2
  | .cAnd _ _ => 2
  | .cJ _ => 2
  | .cBeqz _ _ => 2
  | .cBnez _ _ => 2
  | .cSlli _ _ => 2
  | .cLwsp _ _ => 2
  | .cJr _ => 2
  | .cMv _ _ => 2
  | .cEbreak => 2
  | .cJalr _ => 2
  | .cAdd _ _ => 2
  | .cSwsp _ _ => 2
  | .cLbu _ _ _ => 2
  | .cLhu _ _ _ => 2
  | .cLh _ _ _ => 2
  | .cSb _ _ _ => 2
  | .cSh _ _ _ => 2
  | .cZextB _ => 2
  | .cSextB _ => 2
  | .cZextH _ => 2
  | .cSextH _ => 2
  | .cNot _ => 2
  | .cMul _ _ => 2
  | .cmPush _ _ => 2
  | .cmPop _ _ => 2
  | .cmPopretz _ _ => 2
  | .cmPopret _ _ => 2
  | .cmMvsa01 _ _ => 2
  | .cmMva01s _ _ => 2

/-- The conditional branches, the instructions of the hazard of 20 R113. -/
def Instr.isConditionalBranch : Instr → Bool
  | .add _ _ _ => false
  | .and _ _ _ => false
  | .or _ _ _ => false
  | .sll _ _ _ => false
  | .slt _ _ _ => false
  | .sltu _ _ _ => false
  | .sra _ _ _ => false
  | .srl _ _ _ => false
  | .sub _ _ _ => false
  | .xor _ _ _ => false
  | .addi _ _ _ => false
  | .andi _ _ _ => false
  | .ori _ _ _ => false
  | .slli _ _ _ => false
  | .slti _ _ _ => false
  | .sltiu _ _ _ => false
  | .srai _ _ _ => false
  | .srli _ _ _ => false
  | .xori _ _ _ => false
  | .auipc _ _ => false
  | .lui _ _ => false
  | .beq _ _ _ => true
  | .bge _ _ _ => true
  | .bgeu _ _ _ => true
  | .blt _ _ _ => true
  | .bltu _ _ _ => true
  | .bne _ _ _ => true
  | .jal _ _ => false
  | .jalr _ _ _ => false
  | .lb _ _ _ => false
  | .lbu _ _ _ => false
  | .lh _ _ _ => false
  | .lhu _ _ _ => false
  | .lw _ _ _ => false
  | .sb _ _ _ => false
  | .sh _ _ _ => false
  | .sw _ _ _ => false
  | .div _ _ _ => false
  | .divu _ _ _ => false
  | .mul _ _ _ => false
  | .mulh _ _ _ => false
  | .mulhsu _ _ _ => false
  | .mulhu _ _ _ => false
  | .rem _ _ _ => false
  | .remu _ _ _ => false
  | .amoaddW _ _ _ _ _ => false
  | .amoandW _ _ _ _ _ => false
  | .amomaxW _ _ _ _ _ => false
  | .amomaxuW _ _ _ _ _ => false
  | .amominW _ _ _ _ _ => false
  | .amominuW _ _ _ _ _ => false
  | .amoorW _ _ _ _ _ => false
  | .amoswapW _ _ _ _ _ => false
  | .amoxorW _ _ _ _ _ => false
  | .lrW _ _ _ _ => false
  | .scW _ _ _ _ _ => false
  | .sh1add _ _ _ => false
  | .sh2add _ _ _ => false
  | .sh3add _ _ _ => false
  | .andn _ _ _ => false
  | .clz _ _ => false
  | .cpop _ _ => false
  | .ctz _ _ => false
  | .max _ _ _ => false
  | .maxu _ _ _ => false
  | .min _ _ _ => false
  | .minu _ _ _ => false
  | .orcB _ _ => false
  | .orn _ _ _ => false
  | .rev8 _ _ => false
  | .rol _ _ _ => false
  | .ror _ _ _ => false
  | .rori _ _ _ => false
  | .sextB _ _ => false
  | .sextH _ _ => false
  | .xnor _ _ _ => false
  | .zextH _ _ => false
  | .bclr _ _ _ => false
  | .bclri _ _ _ => false
  | .bext _ _ _ => false
  | .bexti _ _ _ => false
  | .binv _ _ _ => false
  | .binvi _ _ _ => false
  | .bset _ _ _ => false
  | .bseti _ _ _ => false
  | .brev8 _ _ => false
  | .pack _ _ _ => false
  | .packh _ _ _ => false
  | .unzip _ _ => false
  | .zip _ _ => false
  | .fence _ _ _ _ _ => false
  | .fenceTso => false
  | .fenceI _ _ _ => false
  | .csrrc _ _ _ => false
  | .csrrci _ _ _ => false
  | .csrrs _ _ _ => false
  | .csrrsi _ _ _ => false
  | .csrrw _ _ _ => false
  | .csrrwi _ _ _ => false
  | .ebreak => false
  | .ecall => false
  | .mret => false
  | .wfi => false
  | .cAddi4spn _ _ => false
  | .cLw _ _ _ => false
  | .cSw _ _ _ => false
  | .cNop _ => false
  | .cAddi _ _ => false
  | .cJal _ => false
  | .cLi _ _ => false
  | .cAddi16sp _ => false
  | .cLui _ _ => false
  | .cSrli _ _ => false
  | .cSrai _ _ => false
  | .cAndi _ _ => false
  | .cSub _ _ => false
  | .cXor _ _ => false
  | .cOr _ _ => false
  | .cAnd _ _ => false
  | .cJ _ => false
  | .cBeqz _ _ => true
  | .cBnez _ _ => true
  | .cSlli _ _ => false
  | .cLwsp _ _ => false
  | .cJr _ => false
  | .cMv _ _ => false
  | .cEbreak => false
  | .cJalr _ => false
  | .cAdd _ _ => false
  | .cSwsp _ _ => false
  | .cLbu _ _ _ => false
  | .cLhu _ _ _ => false
  | .cLh _ _ _ => false
  | .cSb _ _ _ => false
  | .cSh _ _ _ => false
  | .cZextB _ => false
  | .cSextB _ => false
  | .cZextH _ => false
  | .cSextH _ => false
  | .cNot _ => false
  | .cMul _ _ => false
  | .cmPush _ _ => false
  | .cmPop _ _ => false
  | .cmPopretz _ _ => false
  | .cmPopret _ _ => false
  | .cmMvsa01 _ _ => false
  | .cmMva01s _ _ => false

end Sys2Proof
end

