-- ==== Sys2Proof/Machine/Platform.lean ====
section
/-!
DEFINITION. The OPEN parameters of the spec (spec/00_scope.md R9, spec/10_state.md R78) as plain data, and the values that
`State.reset` gives them (log 2). No step changes a `Platform`; a statement about every state is a statement about every
platform.
-/

namespace Sys2Proof.Machine

/-- The kinds of access that BusFault tells apart (20 R91). `exclusive` is the transaction of lr.w, sc.w and amo*.w
(log 35). -/
inductive Access where
  | load | store | exclusive | fetch
  deriving DecidableEq, Repr

/-- What answers at an address: storage, or a device, whose answers are inputs (20 R95, R97; log 13). -/
inductive RegionKind where
  | memory | device
  deriving DecidableEq, Repr

/-- A range of addresses of MemMap (20 R97; 92 D4). -/
structure Region where
  /-- The lowest address. -/
  base : Nat
  /-- How many bytes. -/
  size : Nat
  /-- Storage or a device. -/
  kind : RegionKind
  /-- The range supports exclusive access (44 R258). -/
  exclusive : Bool
  /-- The kinds of access that the range answers with a bus error. -/
  faults : List Access
  deriving DecidableEq, Repr

/-- MPP_ILLEGAL_WRITE: what a write of 1 or 2 to mstatus.MPP leaves there (10 R46; 92 D9; log 16). -/
inductive MppIllegalWrite where
  | keepOld | writeU | writeM
  deriving DecidableEq, Repr

/-- What a write of a reserved PMP configuration leaves in the entry (log 15). -/
inductive PmpIllegalWrite where
  | keepOld | clearEntry
  deriving DecidableEq, Repr

/-- A PMP entry that the hardware fixes (92 D15: hardwired regions). -/
structure PmpFixed where
  cfg : Byte
  addr : Word
  deriving DecidableEq, Repr

/-- The parameters of the implementation and of the system around the harts. -/
structure Platform where
  /-- The initial contents of MemMap, those of ROM and flash, byte by byte (10 R77; 92 D4; log 11). A platform may fix RAM
  here too. -/
  contents : List Host.Cell
  /-- MemMap and BusFault: the first range that holds an address decides; an address in none is a bus error. -/
  regions : List Region
  /-- The reservation granule of the global monitor is 2^granuleBits words (44 R259; 92 D10; log 22). -/
  granuleBits : Nat
  /-- The identity registers (10 R56). -/
  mvendorid : Word
  marchid : Word
  mimpid : Word
  mconfigptr : Word
  /-- misa shows the letter X (10 R48). -/
  misaX : Bool
  /-- The addresses that CsrImplemented leaves out, of those that 10 R46 to R65 name (92 D8; log 18). -/
  csrAbsent : List CsrAddr
  /-- MPP_ILLEGAL_WRITE for a written 1. -/
  mppOnOne : MppIllegalWrite
  /-- MPP_ILLEGAL_WRITE for a written 2. -/
  mppOnTwo : MppIllegalWrite
  /-- How many PMP entries software can write, from entry 0 on (92 D15; log 14). -/
  pmpCount : Nat
  /-- The PMP grain G: a region is a multiple of 2^(G+2) bytes (log 14). -/
  pmpGrain : Nat
  /-- The hardwired PMP entries, those after the ones that software can write. -/
  pmpFixed : List PmpFixed
  /-- What a reserved PMP configuration leaves (log 15). -/
  pmpIllegalWrite : PmpIllegalWrite
  /-- DEBUG_ATTACHED (92 D14; log 30). -/
  debugAttached : Bool
  deriving DecidableEq, Repr

/-- The memory map that `State.reset` has: the hints of 20 R97 and 92 D4, which the spec calls recalled and unverified.
PRESUMED (unsafe), log 12. -/
def defaultRegions : List Region :=
  [ { base := 0x00000000, size := 0x8000, kind := .memory, exclusive := false, faults := [.store] },
    { base := 0x10000000, size := 0x10000000, kind := .memory, exclusive := false, faults := [.store] },
    { base := 0x20000000, size := 0x82000, kind := .memory, exclusive := true, faults := [] },
    { base := 0x40000000, size := 0x10000000, kind := .device, exclusive := false, faults := [] },
    { base := 0x50000000, size := 0x10000000, kind := .device, exclusive := false, faults := [] },
    { base := 0xd0000000, size := 0x10000000, kind := .device, exclusive := false, faults := [] } ]

/-- The platform that `State.reset` has (log 2, log 11, log 12, log 14 to log 18, log 22, log 30). -/
def defaultPlatform : Platform where
  contents := []
  regions := defaultRegions
  granuleBits := 30
  mvendorid := 0
  marchid := 0x1b
  mimpid := 0x86fc4e3f
  mconfigptr := 0
  misaX := true
  csrAbsent := [0xc01, 0xc81]
  mppOnOne := .keepOld
  mppOnTwo := .keepOld
  pmpCount := 8
  pmpGrain := 3
  pmpFixed := []
  pmpIllegalWrite := .keepOld
  debugAttached := false

/-- RESET_PC as `State.reset` has it: the hint of 92 D5. PRESUMED (unsafe), log 5. -/
def defaultResetPc : Word := 0x00007dfc

/-- MTVEC_RESET as `State.reset` has it: the hint of 92 D7. PRESUMED (unsafe), log 6. -/
def defaultResetMtvec : Word := 0x00007ffc

/-- mcountinhibit at reset: the hint of 10 R77. PRESUMED (unsafe), log 8. -/
def defaultResetMcountinhibit : Word := 5

end Sys2Proof.Machine
end

