-- ==== Sys2Proof/Machine/State.lean ====
section
/-!
DEFINITION. The state of the machine: two harts, the memory that they share, and the parameters of the system
(spec/10_state.md, INVENTORY.md under State). Plain data only.
-/

namespace Sys2Proof.Machine

/-- The privilege level (10 R40): `priv` is 3 in M-mode and 0 in U-mode, and never anything else. -/
inductive Priv where
  | user
  | machine
  deriving DecidableEq, Repr

/-- The fields of mstatus; every other bit of it reads 0 and ignores writes (10 R46). MPP is legal by its type. -/
structure Mstatus where
  /-- Bit 3, MIE. -/
  mie : Bool
  /-- Bit 7, MPIE. -/
  mpie : Bool
  /-- Bits 12:11, MPP. -/
  mpp : Priv
  /-- Bit 17, MPRV. -/
  mprv : Bool
  /-- Bit 21, TW. -/
  tw : Bool
  deriving DecidableEq, Repr

/-- The state of one hart (10 R30, R43) with its hidden state (10 R74, R75). -/
structure Hart where
  /-- mhartid (10 R56): 0 on one hart and 1 on the other. -/
  id : BitVec 1
  /-- x1 to x31, x1 first; x0 has no storage (10 R31, R32). -/
  regs : Vector Word 31
  /-- The program counter: the address of the current instruction (10 R35). -/
  pc : Word
  /-- The current privilege level (10 R40). -/
  priv : Priv
  /-- The local monitor bit (10 R42, 44 R255). -/
  localMonitor : Bool
  /-- The address that the global monitor has recorded for this hart, where it holds a reservation (10 R75, 44 R258). -/
  reservation : Option Word
  /-- mstatus (10 R46). -/
  mstatus : Mstatus
  /-- mie: bits 3, 7 and 11 (10 R49). -/
  mie : Word
  /-- mtvec: BASE and MODE, bit 1 reads 0 (10 R51). -/
  mtvec : Word
  /-- mscratch (10 R52). -/
  mscratch : Word
  /-- mepc: bit 0 reads 0 (10 R53). -/
  mepc : Word
  /-- mcause: bit 31 and bits 3:0 (10 R54). -/
  mcause : Word
  /-- mcounteren: bits 2:0 (10 R57). -/
  mcounteren : Word
  /-- mcountinhibit: bits 0 and 2 (10 R58). -/
  mcountinhibit : Word
  /-- mcycle and mcycleh (10 R59). -/
  mcycle : BitVec 64
  /-- minstret and minstreth (10 R59). -/
  minstret : BitVec 64
  /-- pmpcfg0 to pmpcfg3, one byte for each entry (10 R63). -/
  pmpcfg : Vector Byte 16
  /-- pmpaddr0 to pmpaddr15 (10 R63), every bit of each (log 40). -/
  pmpaddr : Vector Word 16
  /-- DCSR.EBREAKM (10 R41, 49 R413). -/
  dcsrEbreakM : Bool
  /-- DCSR.EBREAKU (10 R41, 49 R413). -/
  dcsrEbreakU : Bool
  /-- Every value that a byte stored since this hart's last fence.i held before such a store, with its address, the newest
  first: the set W of 20 R110 and the values that a fetch may still see (20 R110, R111; log 25). -/
  stale : List (Nat × Byte)
  deriving DecidableEq, Repr

/-- The machine. `turns`, `script` and `now` are the model's own fields, not the spec's (log 1, log 3). -/
structure State where
  /-- The hart whose instruction the next step runs. -/
  hart : Hart
  /-- The other hart. -/
  other : Hart
  /-- The memory that the harts share (20 R80). -/
  mem : Memory
  /-- The parameters of 00 R9; no step changes them. -/
  plat : Platform
  /-- For each coming step, whether the harts change places after it; they stay where the list is empty (log 1). -/
  turns : List Bool
  /-- The inputs of coming steps that are known; where the list is empty the input is a free value (log 3). -/
  script : List Inputs
  /-- How many steps have been taken: the argument of the free value (log 3). -/
  now : Nat
  deriving DecidableEq, Repr

/-- Why the machine stops. -/
inductive Fault where
  /-- Raised by the step, when it would run a conditional branch of whose bytes the hart has stored one since its last
  fence.i: "Hazard3 behaves unpredictably" (20 R113; 92 D18). Safe: the model stops where the hardware may do anything
  (log 26). -/
  | staleBranch
  /-- Raised by the fetch of a 32-bit instruction at 0xfffffffe, whose second parcel would lie at address 0 (92 D29, 10 R38).
  Safe: the spec asks the model to stop here (log 27). -/
  | fetchWraps
  deriving DecidableEq, Repr

/-- Why the model gives no meaning. -/
inductive Refusal where
  /-- Raised by an arm of `exec` that has no meaning yet; no arm is left so. Safe: nothing is claimed. -/
  | notModelled (mnemonic : String)
  /-- Raised by a CSR instruction that reaches a custom CSR, 0xbc0 to 0xbff, in M-mode: "a model refuses a program that touches
  0xbc0 to 0xbff" (10 R65; log 20). Safe: nothing is claimed of such a program. -/
  | customCsr
  /-- Raised by cm.push, cm.pop, cm.popret and cm.popretz where an access passes its checks and reaches a device: the device may
  see an access again when the hardware restarts the sequence, and the spec has a model "refuse" (93 item 33; log 13). Safe:
  nothing is claimed of such a program. -/
  | zcmpAtDevice
  /-- Raised by ebreak and c.ebreak where an attached debug host has asked to catch them: the hart would enter Debug mode, which
  is outside the spec (49 R413, 00 R8 (e); log 30). Safe: nothing is claimed of Debug mode. -/
  | entersDebugMode
  deriving DecidableEq, Repr

/-- The result of an instruction or a step. -/
abbrev Result := Host.Outcome State Fault Refusal

/-- A hart right after reset (10 R77, 70 R490). The values that the spec gives are priv, localMonitor, mstatus.mie,
mstatus.mprv, the empty `stale` and reservation, and the two arguments pc and mtvec; the others are named in log 4 to log 9,
log 14 and log 30. -/
def Hart.reset (id : BitVec 1) (pc mtvec : Word) : Hart where
  id := id
  regs := Vector.replicate 31 0
  pc := pc
  priv := .machine
  localMonitor := false
  reservation := none
  mstatus := { mie := false, mpie := false, mpp := .machine, mprv := false, tw := false }
  mie := 0
  mtvec := mtvec
  mscratch := 0
  mepc := 0
  mcause := 0
  mcounteren := 0
  mcountinhibit := defaultResetMcountinhibit
  mcycle := 0
  minstret := 0
  pmpcfg := Vector.replicate 16 0
  pmpaddr := Vector.replicate 16 0
  dcsrEbreakM := false
  dcsrEbreakU := false
  stale := []

/-- The machine right after reset, for any value of the OPEN parameters: the platform with the initial contents of its memory
(10 R77), RESET_PC of each hart (92 D26) and MTVEC_RESET. Hart 0 runs (log 1). -/
def State.resetWith (plat : Platform) (pc0 pc1 mtvec : Word) : State where
  hart := Hart.reset 0 pc0 mtvec
  other := Hart.reset 1 pc1 mtvec
  mem := Memory.ofCells plat.contents
  plat := plat
  turns := []
  script := []
  now := 0

/-- The machine right after reset, with the default value of every OPEN parameter. -/
def State.reset : State := State.resetWith defaultPlatform defaultResetPc defaultResetPc defaultResetMtvec

end Sys2Proof.Machine
end

