-- ==== Sys2Proof/Machine/Flags.lean ====
section
/-!
DEFINITION. The machine has no flags register and no condition codes (spec/10_state.md R39). What other machines keep in
flags is here a value 0 or 1 in a register, or a branch taken or not; this file holds those two readings of a comparison.
-/

namespace Sys2Proof.Machine

/-- The truth value of a comparison as a register value, 0 or 1 (10 R39). -/
def truthWord (b : Bool) : Word := if b then 1 else 0

/-- `x[rs1] < x[rs2]` on two's complement integers. -/
def lessSigned (a b : Word) : Bool := a.slt b

/-- `x[rs1] < x[rs2]` on unsigned integers. -/
def lessUnsigned (a b : Word) : Bool := a.ult b

end Sys2Proof.Machine
end

