-- ==== Sys2Proof/Machine/Operands.lean ====
section
/-!
DEFINITION. Operand forms: the registers that a field names, and the value of an immediate (spec/10_state.md R31 to R34,
spec/30_encoding.md R125 to R127, R136). The one place that knows that x0 is zero.
-/

namespace Sys2Proof.Machine

/-! ### Registers -/

/-- The place of a register other than x0 in `Hart.regs`. -/
def regSlot (r : RegIdx) : Fin 31 := ⟨r.toNat - 1, by have := r.isLt; omega⟩

/-- The value of a general register; x0 reads 0 (10 R32). -/
def Hart.reg (h : Hart) (r : RegIdx) : Word := if r = 0#5 then 0#32 else h.regs[regSlot r]

/-- A general register written; a write to x0 is discarded (10 R32). -/
def Hart.setReg (h : Hart) (r : RegIdx) (v : Word) : Hart :=
  if r = 0#5 then h else { h with regs := h.regs.set (regSlot r) v }

/-- A register of the running hart. -/
def State.reg (s : State) (r : RegIdx) : Word := s.hart.reg r

/-- A register of the running hart written. -/
def State.setReg (s : State) (r : RegIdx) (v : Word) : State := { s with hart := s.hart.setReg r v }

/-- The register of a three-bit field: x(8 + n) (30 R125). -/
def cReg (n : CReg) : RegIdx := 0b01#2 ++ n

/-- The register of an s field of Zcmp: 0 and 1 are x8 and x9, 2 to 7 are x18 to x23 (30 R125). -/
def sReg (n : SReg) : RegIdx := if n.toNat < 2 then BitVec.ofNat 5 (8 + n.toNat) else BitVec.ofNat 5 (16 + n.toNat)

/-- The return address register, x1. -/
def ra : RegIdx := 1#5
/-- The stack pointer, x2. -/
def sp : RegIdx := 2#5
/-- The first argument register, x10. -/
def a0 : RegIdx := 10#5
/-- The second argument register, x11. -/
def a1 : RegIdx := 11#5

/-! ### Immediates -/

/-- A signed immediate as a word (30 R126, R127). -/
def signExtend {n : Nat} (imm : BitVec n) : Word := imm.signExtend 32

/-- An unsigned immediate as a word (30 R126, R127). -/
def zeroExtend {n : Nat} (imm : BitVec n) : Word := imm.setWidth 32

/-- The value of a U immediate: 20 bits above twelve zeros (30 R126). -/
def upperImmediate (imm : BitVec 20) : Word := imm ++ 0#12

/-- The value of the c.lui immediate: six bits above twelve zeros, sign-extended from bit 17 (30 R127). -/
def cUpperImmediate (imm : BitVec 6) : Word := (imm ++ 0#12).signExtend 32

/-! ### Register lists of Zcmp (30 R136) -/

/-- How many s registers a register list has: rlist 4 has none, each further value one more, and 15 has twelve. -/
def savedCount (rlist : BitVec 4) : Nat := if rlist = 15#4 then 12 else rlist.toNat - 4

/-- s0 to s11 in order: x8, x9, x18 to x27 (10 R33). -/
def savedRegs : List RegIdx := [8, 9, 18, 19, 20, 21, 22, 23, 24, 25, 26, 27]

/-- The registers of a list in the order ra, s0, s1, ... (30 R136). -/
def registerList (rlist : BitVec 4) : List RegIdx := ra :: savedRegs.take (savedCount rlist)

/-- The size of the list's frame: four bytes a register, rounded up to a multiple of 16 (30 R136). -/
def stackAdjustBase (rlist : BitVec 4) : Word :=
  if rlist.toNat < 8 then 16 else if rlist.toNat < 12 then 32 else if rlist.toNat < 15 then 48 else 64

/-- The stack adjustment of a Zcmp instruction (30 R136). -/
def stackAdjust (rlist : BitVec 4) (spimm : BitVec 2) : Word := stackAdjustBase rlist + 16 * zeroExtend spimm

end Sys2Proof.Machine
end

