-- ==== Sys2Proof/Machine/Pmp.lean ====
section
/-!
DEFINITION. Physical memory protection (spec/20_memory.md R96, spec/10_state.md R63). The spec asks a model that has the
registers to take them from the Privileged Architecture; all of this file is PRESUMED from there, unsafe (log 14, log 15).
-/

namespace Sys2Proof.Machine

/-- The kinds of access that PMP tells apart: the load and the fetch need their own permission; an AMO needs both read and
write (60 R431, cause 7). -/
inductive PmpKind where
  | read | write | readWrite | execute
  deriving DecidableEq, Repr

/-- One PMP entry as it stands: its configuration byte and its address register as stored. -/
structure PmpEntry where
  cfg : Byte
  addr : Word
  /-- The address register of the entry before, 0 for entry 0: the low bound of a TOR region. -/
  low : Word
  deriving DecidableEq, Repr

/-- Bit 7, L: the entry is locked and holds for M-mode too. -/
def pmpLocked (cfg : Byte) : Bool := cfg.getLsbD 7

/-- Bits 4:3, A: 0 off, 1 top of range, 2 four bytes, 3 a naturally aligned power of two. -/
def pmpMode (cfg : Byte) : BitVec 2 := cfg.extractLsb' 3 2

/-- Bits 0, 1 and 2 are R, W and X. -/
def pmpPermits (cfg : Byte) : PmpKind → Bool
  | .read => cfg.getLsbD 0
  | .write => cfg.getLsbD 1
  | .readWrite => cfg.getLsbD 0 && cfg.getLsbD 1
  | .execute => cfg.getLsbD 2

/-- The low n bits set. -/
def lowOnes (n : Nat) : Word := BitVec.ofNat 32 (2 ^ n - 1)

/-- An address register with the bits below the grain cleared: what OFF and TOR see of it. -/
def pmpFloor (grain : Nat) (addr : Word) : Word := addr &&& ~~~ lowOnes grain

/-- An address register with the bits below the grain, but for the highest of them, set: what NAPOT sees of it. -/
def pmpNapot (grain : Nat) (addr : Word) : Word := addr ||| lowOnes (grain - 1)

/-- The entry's region holds the byte address. An address register holds bits 33:2 of an address. -/
def PmpEntry.matches (grain : Nat) (e : PmpEntry) (a : Word) : Bool :=
  let word := a >>> 2
  if pmpMode e.cfg = 1 then
    decide (pmpFloor grain e.low ≤ word) && decide (word < pmpFloor grain e.addr)
  else if pmpMode e.cfg = 2 then word == e.addr
  else if pmpMode e.cfg = 3 then
    let p := pmpNapot grain e.addr
    ((word ^^^ p) &&& ~~~ (p ^^^ (p + 1))) == 0
  else false

/-- The entry that software can write or the hardware fixes under the number n; none above those. -/
def pmpEntry (plat : Platform) (h : Hart) (n : Fin 16) : Option (Byte × Word) :=
  if n.val < plat.pmpCount then some (h.pmpcfg[n], h.pmpaddr[n])
  else match plat.pmpFixed[n.val - plat.pmpCount]? with
    | some f => some (f.cfg, f.addr)
    | none => none

/-- The configuration byte of an entry, 0 where there is none. -/
def pmpCfgOf (plat : Platform) (h : Hart) (n : Fin 16) : Byte :=
  match pmpEntry plat h n with
  | some e => e.1
  | none => 0

/-- The stored address register of an entry, 0 where there is none. -/
def pmpAddrOf (plat : Platform) (h : Hart) (n : Fin 16) : Word :=
  match pmpEntry plat h n with
  | some e => e.2
  | none => 0

/-- The address register below entry n. -/
def pmpLowOf (plat : Platform) (h : Hart) (n : Fin 16) : Word :=
  if n = 0 then 0 else pmpAddrOf plat h (n - 1)

/-- The sixteen entry numbers in order of priority, the lowest first. -/
def pmpNumbers : List (Fin 16) := [0, 1, 2, 3, 4, 5, 6, 7, 8, 9, 10, 11, 12, 13, 14, 15]

/-- The configuration of the entry of lowest number whose region holds the address. -/
def pmpDeciding (plat : Platform) (h : Hart) (a : Word) : List (Fin 16) → Option Byte
  | [] => none
  | n :: rest =>
    if PmpEntry.matches plat.pmpGrain ⟨pmpCfgOf plat h n, pmpAddrOf plat h n, pmpLowOf plat h n⟩ a then
      some (pmpCfgOf plat h n)
    else pmpDeciding plat h a rest

/-- PmpCheck (20 R96). An aligned access of at most four bytes, and a parcel, lies in one word, so that its first address
decides for all its bytes. M-mode passes where no locked entry matches; U-mode passes only where an entry grants it. -/
def pmpAllows (plat : Platform) (h : Hart) (priv : Priv) (kind : PmpKind) (a : Word) : Bool :=
  match pmpDeciding plat h a pmpNumbers with
  | some cfg => (priv == .machine && !pmpLocked cfg) || pmpPermits cfg kind
  | none => priv == .machine

/-! ### Reading and writing the registers -/

/-- What a read of pmpaddr n shows: the bits below the grain read 1 for NAPOT, but for the highest of them, and 0 for OFF and TOR. -/
def pmpAddrView (plat : Platform) (h : Hart) (n : Fin 16) : Word :=
  match pmpEntry plat h n with
  | none => 0
  | some e => if e.1.getLsbD 4 then pmpNapot plat.pmpGrain e.2 else pmpFloor plat.pmpGrain e.2

/-- What a read of pmpcfg k shows: the bytes of entries 4k to 4k+3, the lowest first. -/
def pmpCfgView (plat : Platform) (h : Hart) (k : Fin 4) : Word :=
  pmpCfgOf plat h ⟨4 * k.val + 3, by omega⟩ ++ pmpCfgOf plat h ⟨4 * k.val + 2, by omega⟩ ++
    pmpCfgOf plat h ⟨4 * k.val + 1, by omega⟩ ++ pmpCfgOf plat h ⟨4 * k.val, by omega⟩

/-- A configuration that the Privileged Architecture reserves: W without R, or four bytes where the grain is coarser. -/
def pmpReserved (grain : Nat) (cfg : Byte) : Bool :=
  (cfg.getLsbD 1 && !cfg.getLsbD 0) || (pmpMode cfg == 2 && decide (0 < grain))

/-- What a configuration byte holds after a write of v over old: bits 6:5 read 0; a reserved value leaves what the platform says
(log 15). -/
def pmpLegalize (plat : Platform) (old v : Byte) : Byte :=
  if pmpReserved plat.pmpGrain (v &&& 0x9f) then
    match plat.pmpIllegalWrite with
    | .keepOld => old
    | .clearEntry => 0
  else v &&& 0x9f

/-- One configuration byte written; a locked entry, and one that software cannot write, ignores it. -/
def Hart.setPmpCfgByte (plat : Platform) (h : Hart) (n : Fin 16) (v : Byte) : Hart :=
  if n.val < plat.pmpCount && !pmpLocked h.pmpcfg[n] then
    { h with pmpcfg := h.pmpcfg.set n (pmpLegalize plat h.pmpcfg[n] v) }
  else h

/-- pmpcfg k written: four entries. -/
def Hart.setPmpCfg (plat : Platform) (h : Hart) (k : Fin 4) (v : Word) : Hart :=
  (((h.setPmpCfgByte plat ⟨4 * k.val, by omega⟩ (v.extractLsb' 0 8)).setPmpCfgByte plat ⟨4 * k.val + 1, by omega⟩
    (v.extractLsb' 8 8)).setPmpCfgByte plat ⟨4 * k.val + 2, by omega⟩ (v.extractLsb' 16 8)).setPmpCfgByte plat
      ⟨4 * k.val + 3, by omega⟩ (v.extractLsb' 24 8)

/-- The entry above n is locked and a TOR region, so that pmpaddr n is locked as its low bound. -/
def pmpBoundLocked (plat : Platform) (h : Hart) (n : Fin 16) : Bool :=
  decide (n.val + 1 < 16) && pmpLocked (pmpCfgOf plat h (n + 1)) && pmpMode (pmpCfgOf plat h (n + 1)) == 1

/-- pmpaddr n written; a locked entry, the low bound of a locked TOR entry, and one that software cannot write, ignore it.
All 32 bits of the register are held: the register is WARL and the spec gives no width (10 R63). DESIGN CHOICE (unsafe), log 40. -/
def Hart.setPmpAddr (plat : Platform) (h : Hart) (n : Fin 16) (v : Word) : Hart :=
  if n.val < plat.pmpCount && !pmpLocked h.pmpcfg[n] && !pmpBoundLocked plat h n then
    { h with pmpaddr := h.pmpaddr.set n v }
  else h

end Sys2Proof.Machine
end

