-- ==== Sys2Proof/Machine/Ops.lean ====
section
/-!
DEFINITION. The operations that the meanings share: the end of an instruction, taking a trap and returning from one, the checks
of a memory access, loads, stores and exclusive accesses (spec/20_memory.md, spec/44_a_atomics.md R255 to R260,
spec/60_exceptions.md R450).
-/

namespace Sys2Proof.Machine

/-! ### Inputs -/

/-- The inputs of the step that the machine is about to take (log 3). -/
def State.inputs (s : State) : Inputs :=
  match s.script with
  | x :: _ => x
  | [] => Config.inputs s.now

/-! ### The end of an instruction -/

/-- The pc written. -/
def State.setPc (s : State) (pc : Word) : State := { s with hart := { s.hart with pc := pc } }

/-- mcountinhibit.CY stops mcycle (10 R58). -/
def Hart.cycleStopped (h : Hart) : Bool := h.mcountinhibit.getLsbD 0

/-- mcountinhibit.IR stops minstret (10 R58). -/
def Hart.instretStopped (h : Hart) : Bool := h.mcountinhibit.getLsbD 2

/-- An instruction retires: minstret counts it unless it is stopped (10 R59; 92 D21; log 10). -/
def State.retire (s : State) : State :=
  if s.hart.instretStopped then s else { s with hart := { s.hart with minstret := s.hart.minstret + 1 } }

/-- The instruction is done and the next one follows it (10 R36). `len` is its length in bytes. -/
def finish (len : Word) (s : State) : Result := .next (s.setPc (s.hart.pc + len)).retire

/-- The instruction is done and the next one stands at `target`. -/
def finishAt (target : Word) (s : State) : Result := .next (s.setPc target).retire

/-- The instruction writes one register and nothing else (00 R12). -/
def writeReg (len : Word) (rd : RegIdx) (v : Word) (s : State) : Result := finish len (s.setReg rd v)

/-! ### Traps -/

/-- The exception causes that occur (60 R431, R432). -/
inductive Cause where
  | fetchFault | illegal | breakpoint | loadMisaligned | loadFault | storeMisaligned | storeFault | ecallUser | ecallMachine
  deriving DecidableEq, Repr

/-- The code of an exception (60 R431). -/
def Cause.code : Cause → Word
  | .fetchFault => 1
  | .illegal => 2
  | .breakpoint => 3
  | .loadMisaligned => 4
  | .loadFault => 5
  | .storeMisaligned => 6
  | .storeFault => 7
  | .ecallUser => 8
  | .ecallMachine => 11

/-- The interrupts (60 R440, R441). -/
inductive Irq where
  | software | timer | external
  deriving DecidableEq, Repr

/-- The code of an interrupt (60 R441). -/
def Irq.code : Irq → Word
  | .software => 3
  | .timer => 7
  | .external => 11

/-- What takes the hart to its handler (60 R430). -/
inductive Trap where
  | exception (c : Cause)
  | interrupt (i : Irq)
  deriving DecidableEq, Repr

/-- The value of mcause (60 R450 (2)). -/
def Trap.mcause : Trap → Word
  | .exception c => c.code
  | .interrupt i => 0x80000000 ||| i.code

/-- mtvec.BASE as an address: its two low bits taken as 0 (10 R51). -/
def Hart.trapBase (h : Hart) : Word := h.mtvec &&& 0xfffffffc

/-- mtvec.MODE is 1, vectored (10 R51). -/
def Hart.vectored (h : Hart) : Bool := h.mtvec.extractLsb' 0 2 == 1#2

/-- Where the handler of a trap stands (60 R450 (7)). -/
def Hart.trapTarget (h : Hart) : Trap → Word
  | .exception _ => h.trapBase
  | .interrupt i => if h.vectored then h.trapBase + 4 * i.code else h.trapBase

/-- Trap entry of a hart (60 R450). mtval is hardwired to 0 (10 R55). -/
def Hart.enterTrap (h : Hart) (t : Trap) : Hart :=
  { h with
    mepc := h.pc
    mcause := t.mcause
    mstatus := { h.mstatus with mpie := h.mstatus.mie, mie := false, mpp := h.priv }
    priv := .machine
    localMonitor := false
    pc := h.trapTarget t }

/-- Trap entry: the running hart alone changes (60 R450). -/
def enterTrap (t : Trap) (s : State) : State := { s with hart := s.hart.enterTrap t }

/-- The instruction raises an exception: it does not retire, and the hart takes the trap (60 R433, R450). -/
def raise (c : Cause) (s : State) : Result := .next (enterTrap (.exception c) s)

/-- Trap return of a hart (49 R415). -/
def Hart.leaveTrap (h : Hart) : Hart :=
  { h with
    mstatus := { h.mstatus with
      mie := h.mstatus.mpie, mpie := true, mpp := .user, mprv := h.mstatus.mprv && h.mstatus.mpp == .machine }
    priv := h.mstatus.mpp
    pc := h.mepc }

/-- Trap return: the running hart alone changes (49 R415, 60 R452). -/
def leaveTrap (s : State) : State := { s with hart := s.hart.leaveTrap }

/-! ### The checks of an access -/

/-- The range of MemMap that holds an address (20 R97). -/
def Platform.regionAt (p : Platform) (a : Word) : Option Region :=
  p.regions.find? fun r => decide (r.base ≤ a.toNat) && decide (a.toNat < r.base + r.size)

/-- BusFault (20 R91): nothing at the address, or a bus error for this kind of access. -/
def Platform.busFault (p : Platform) (k : Access) (a : Word) : Bool :=
  match p.regionAt a with
  | none => true
  | some r => r.faults.contains k

/-- The address belongs to a device (20 R95, R97; log 13). -/
def Platform.isDevice (p : Platform) (a : Word) : Bool :=
  match p.regionAt a with
  | none => false
  | some r => r.kind == .device

/-- The address supports exclusive access (44 R258). -/
def Platform.supportsExclusive (p : Platform) (a : Word) : Bool :=
  match p.regionAt a with
  | none => false
  | some r => r.exclusive

/-- The privilege level that loads and stores are checked at: mstatus.MPP where MPRV is set (10 R46, 20 R96). -/
def Hart.dataPriv (h : Hart) : Priv := if h.mstatus.mprv then h.mstatus.mpp else h.priv

/-- PmpCheck of a data access of the running hart (20 R96). -/
def State.dataAllowed (s : State) (kind : PmpKind) (a : Word) : Bool := pmpAllows s.plat s.hart s.hart.dataPriv kind a

/-- What the checks of an access say. -/
inductive Verdict where
  | allowed
  | trap (c : Cause)
  deriving DecidableEq, Repr

/-- The checks of an access of `n` bytes in their order: alignment, then protection and bus fault, which give one cause (20 R88
to R92). -/
def State.verdict (s : State) (k : Access) (kind : PmpKind) (n : Nat) (misaligned denied : Cause) (a : Word) : Verdict :=
  if a.toNat % n ≠ 0 then .trap misaligned
  else if !s.dataAllowed kind a || s.plat.busFault k a then .trap denied
  else .allowed

/-- The checks of a load of `n` bytes (20 R89, R91). -/
def State.loadVerdict (s : State) (n : Nat) (a : Word) : Verdict := s.verdict .load .read n .loadMisaligned .loadFault a

/-- The checks of a store of `n` bytes (20 R89, R91). -/
def State.storeVerdict (s : State) (n : Nat) (a : Word) : Verdict := s.verdict .store .write n .storeMisaligned .storeFault a

/-- The instruction goes on where the checks pass; else it raises. -/
def guarded (v : Verdict) (s : State) (body : Result) : Result :=
  match v with
  | .allowed => body
  | .trap c => raise c s

/-! ### Reads

The address of an access decides who answers it, as it does for BusFault (20 R91, R97). What a device answers is an input (log
13). -/

/-- One byte read (20 R92). -/
def State.load8 (s : State) (a : Word) : Byte :=
  if s.plat.isDevice a then s.inputs.deviceData.extractLsb' 0 8 else s.mem.read8 a

/-- Two bytes read (20 R92). -/
def State.load16 (s : State) (a : Word) : Half :=
  if s.plat.isDevice a then s.inputs.deviceData.extractLsb' 0 16 else s.mem.read16 a

/-- Four bytes read (20 R92). -/
def State.load32 (s : State) (a : Word) : Word := if s.plat.isDevice a then s.inputs.deviceData else s.mem.read32 a

/-! ### Stores -/

/-- A byte of memory is about to change for this hart's fetches: the value it held stays visible to them (20 R110, R111). -/
def Hart.noteStore (h : Hart) (a : Nat) (old : Byte) : Hart := { h with stale := (a, old) :: h.stale }

/-- One byte of a write. Memory holds it, unless a device takes it (log 13). The byte joins both harts' sets W, and their fetches
may see the old value until their next fence.i (20 R110, R111). -/
def State.storeByte (s : State) (device : Bool) (a : Word) (v : Byte) : State :=
  { s with
    mem := if device then s.mem else s.mem.write a.toNat v
    hart := s.hart.noteStore a.toNat (s.mem.read8 a)
    other := s.other.noteStore a.toNat (s.mem.read8 a) }

/-- The granule that an address lies in (44 R259): a whole number of words, so that an aligned access lies in one (log 22). -/
def Platform.granule (p : Platform) (a : Word) : Nat := a.toNat / 2 ^ (p.granuleBits + 2)

/-- The hart's reservation is in the granule of the address (44 R259 (a)). -/
def Hart.reservedAt (p : Platform) (h : Hart) (a : Word) : Bool :=
  match h.reservation with
  | none => false
  | some r => p.granule r == p.granule a

/-- A write to an address ends a hart's reservation of its granule, where another agent makes it (44 R259 (a), (c)). -/
def Hart.loseReservation (p : Platform) (h : Hart) (a : Word) : Hart :=
  if h.reservedAt p a then { h with reservation := none } else h

/-- The other hart loses its reservation of the granule that the running hart writes to (44 R259). -/
def State.endOtherReservation (s : State) (a : Word) : State := { s with other := s.other.loseReservation s.plat a }

/-- One byte stored (20 R92, R93). -/
def State.store8 (s : State) (a : Word) (v : Byte) : State :=
  (s.storeByte (s.plat.isDevice a) a v).endOtherReservation a

/-- Two bytes stored, little-endian (20 R83, R93). -/
def State.store16 (s : State) (a : Word) (v : Half) : State :=
  ((s.storeByte (s.plat.isDevice a) a (v.extractLsb' 0 8)).storeByte (s.plat.isDevice a) (a + 1)
    (v.extractLsb' 8 8)).endOtherReservation a

/-- Four bytes stored, little-endian (20 R83, R93). -/
def State.store32 (s : State) (a : Word) (v : Word) : State :=
  ((((s.storeByte (s.plat.isDevice a) a (v.extractLsb' 0 8)).storeByte (s.plat.isDevice a) (a + 1)
    (v.extractLsb' 8 8)).storeByte (s.plat.isDevice a) (a + 2) (v.extractLsb' 16 8)).storeByte (s.plat.isDevice a) (a + 3)
    (v.extractLsb' 24 8)).endOtherReservation a

/-! ### Loads and stores as the end of an instruction -/

/-- `lw` of any length and address form (42 R226). -/
def loadWord (len : Word) (rd : RegIdx) (a : Word) (s : State) : Result :=
  guarded (s.loadVerdict 4 a) s (writeReg len rd (s.load32 a) s)

/-- `lh` (42 R224). -/
def loadHalfSigned (len : Word) (rd : RegIdx) (a : Word) (s : State) : Result :=
  guarded (s.loadVerdict 2 a) s (writeReg len rd (signExtend (s.load16 a)) s)

/-- `lhu` (42 R225). -/
def loadHalfUnsigned (len : Word) (rd : RegIdx) (a : Word) (s : State) : Result :=
  guarded (s.loadVerdict 2 a) s (writeReg len rd (zeroExtend (s.load16 a)) s)

/-- `lb` (42 R222). -/
def loadByteSigned (len : Word) (rd : RegIdx) (a : Word) (s : State) : Result :=
  guarded (s.loadVerdict 1 a) s (writeReg len rd (signExtend (s.load8 a)) s)

/-- `lbu` (42 R223). -/
def loadByteUnsigned (len : Word) (rd : RegIdx) (a : Word) (s : State) : Result :=
  guarded (s.loadVerdict 1 a) s (writeReg len rd (zeroExtend (s.load8 a)) s)

/-- `sw` (42 R229). -/
def storeWord (len : Word) (a v : Word) (s : State) : Result :=
  guarded (s.storeVerdict 4 a) s (finish len (s.store32 a v))

/-- `sh` (42 R228). -/
def storeHalf (len : Word) (a v : Word) (s : State) : Result :=
  guarded (s.storeVerdict 2 a) s (finish len (s.store16 a (v.extractLsb' 0 16)))

/-- `sb` (42 R227). -/
def storeByteOf (len : Word) (a v : Word) (s : State) : Result :=
  guarded (s.storeVerdict 1 a) s (finish len (s.store8 a (v.extractLsb' 0 8)))

/-! ### Exclusive accesses -/

/-- The local monitor bit written. -/
def State.setLocalMonitor (s : State) (b : Bool) : State := { s with hart := { s.hart with localMonitor := b } }

/-- The running hart's reservation written. -/
def State.setReservation (s : State) (r : Option Word) : State := { s with hart := { s.hart with reservation := r } }

/-- `exclusive_read_32` without its data: the global monitor records a reservation where the address supports exclusive
access, and the local monitor follows its answer (44 R256, R258). -/
def State.reserve (s : State) (a : Word) : State :=
  if s.plat.supportsExclusive a then (s.setReservation (some a)).setLocalMonitor true
  else (s.setReservation none).setLocalMonitor false

/-- `global_monitor_write`: granted to a hart that holds a reservation of the granule at an address that supports exclusive
access, unless it refuses for no visible reason (44 R259; log 22). -/
def State.exclusiveGranted (s : State) (a : Word) : Bool :=
  s.hart.reservedAt s.plat a && s.plat.supportsExclusive a && !s.inputs.exclusiveRefused

/-- After an exclusive write, granted or not: no reservation (44 R259 (b)), and the local monitor clear (44 R257). -/
def State.endExclusive (s : State) : State := (s.setReservation none).setLocalMonitor false

/-- The checks of an exclusive access to a word (44 R260, R271, R272). -/
def State.exclusiveVerdict (s : State) (kind : PmpKind) (misaligned denied : Cause) (a : Word) : Verdict :=
  s.verdict .exclusive kind 4 misaligned denied a

/-- `lr.w` (44 R271). -/
def loadReserved (rd : RegIdx) (a : Word) (s : State) : Result :=
  guarded (s.exclusiveVerdict .read .loadMisaligned .loadFault a) s (writeReg 4 rd (s.load32 a) (s.reserve a))

/-- `sc.w` past its alignment and fault checks. Without the local monitor it makes no bus transaction; with it the global monitor
decides (44 R272, R257). -/
def storeConditionalBody (rd : RegIdx) (a v : Word) (s : State) : Result :=
  if !s.hart.localMonitor then writeReg 4 rd 1 s
  else if s.exclusiveGranted a then writeReg 4 rd 0 (s.store32 a v).endExclusive
  else writeReg 4 rd 1 s.endExclusive

/-- `sc.w` (44 R272). A trap clears the local monitor too, as R272 asks on every path (60 R450 (6)). -/
def storeConditional (rd : RegIdx) (a v : Word) (s : State) : Result :=
  guarded (s.exclusiveVerdict .write .storeMisaligned .storeFault a) s (storeConditionalBody rd a v s)

/-- The checks of an AMO: those of an exclusive access with read and write permission; then an address that does not support
exclusive access is a store/AMO fault too (44 R260). -/
def State.amoVerdict (s : State) (a : Word) : Verdict :=
  match s.exclusiveVerdict .readWrite .storeMisaligned .storeFault a with
  | .trap c => .trap c
  | .allowed => if s.plat.supportsExclusive a then .allowed else .trap .storeFault

/-- An AMO as one atomic step (44 R260; 92 D28; log 23): `f` gives the new value from the old one and x[rs2]. -/
def atomicUpdate (f : Word → Word → Word) (rd : RegIdx) (a v : Word) (s : State) : Result :=
  guarded (s.amoVerdict a) s
    (writeReg 4 rd (s.load32 a) (s.store32 a (f (s.load32 a) v)).endExclusive)

end Sys2Proof.Machine
end

