-- ==== Sys2Proof/Machine/Advance.lean ====
section
/-!
DEFINITION. What happens between instructions: the interrupt that is to be taken (spec/60_exceptions.md R441 to R443), and the move
from one step to the next (log 1, log 3, log 9).
-/

namespace Sys2Proof.Machine

/-- Interrupts are enabled: always in U-mode, by mstatus.MIE in M-mode (60 R442). -/
def Hart.interruptsEnabled (h : Hart) : Bool := h.priv == .user || h.mstatus.mie

/-- The interrupt that is to be taken before the next instruction, if any: external, then software, then timer (60 R441, R442). -/
def State.pendingInterrupt (s : State) : Option Irq :=
  if !s.hart.interruptsEnabled then none
  else if s.hart.mie.getLsbD 11 && s.inputs.meip then some .external
  else if s.hart.mie.getLsbD 3 && s.inputs.msip then some .software
  else if s.hart.mie.getLsbD 7 && s.inputs.mtip then some .timer
  else none

/-- The interrupt that the step takes. The hardware may take it at any boundary from its rise on: a free input puts it off (60 R443;
92 D13; log 29). -/
def State.takenInterrupt (s : State) : Option Irq :=
  match s.pendingInterrupt with
  | none => none
  | some i => if s.inputs.interruptDeferred then none else some i

/-- A step has passed for the running hart: a counting mcycle has any value (10 R59; log 9). -/
def Hart.passCycle (h : Hart) (cycle : BitVec 64) : Hart := if h.cycleStopped then h else { h with mcycle := cycle }

/-- The running hart's mcycle after the step. -/
def State.countCycle (s : State) : State := { s with hart := s.hart.passCycle s.inputs.cycle }

/-- The step's inputs are used up (log 3). -/
def State.nextInputs (s : State) : State := { s with script := s.script.tail, now := s.now + 1 }

/-- The harts change places where `turns` says so (log 1). -/
def State.nextTurn (s : State) : State :=
  match s.turns with
  | [] => s
  | true :: rest => { s with hart := s.other, other := s.hart, turns := rest }
  | false :: rest => { s with turns := rest }

/-- The move to the next step. -/
def State.advance (s : State) : State := s.countCycle.nextInputs.nextTurn

/-- The move to the next step after an instruction or a trap entry that completes. -/
def advanced : Result → Result
  | .next s => .next s.advance
  | .fault f => .fault f
  | .refused r => .refused r

end Sys2Proof.Machine
end

