-- ==== Sys2Proof/Machine/Arith.lean ====
section
/-!
DEFINITION. The value that each computational instruction gives, as a function of words (spec/40_rv32i_alu.md,
spec/43_m_muldiv.md, spec/46_zba_zbb.md, spec/47_zbs_zbkb.md).
-/

namespace Sys2Proof.Machine

/-! ### Shifts and rotations -/

/-- The amount of a shift or the index of a bit that a register gives: its bits 4:0 (40 R174; 47 R350). -/
def shiftAmount (v : Word) : Nat := (v.extractLsb' 0 5).toNat

/-- `sra`: copies of bit 31 enter at the top (40 R177). -/
def shiftRightArith (a : Word) (n : Nat) : Word := a.sshiftRight n

/-- `ror`: the low word of the doubled value shifted right (46 R337). -/
def rotateRight (a : Word) (n : Nat) : Word := ((a ++ a) >>> n).extractLsb' 0 32

/-- `rol`: the high word of the doubled value shifted left (46 R336). -/
def rotateLeft (a : Word) (n : Nat) : Word := ((a ++ a) <<< n).extractLsb' 32 32

/-! ### Multiplication and division (43) -/

/-- The upper word of a product of 64-bit values (43 R244). -/
def upperWord (p : BitVec 64) : Word := p.extractLsb' 32 32

/-- `mulh`: both operands signed (43 R244). -/
def mulHighSigned (a b : Word) : Word := upperWord (a.signExtend 64 * b.signExtend 64)

/-- `mulhsu`: the first operand signed, the second unsigned (43 R245). -/
def mulHighSignedUnsigned (a b : Word) : Word := upperWord (a.signExtend 64 * b.setWidth 64)

/-- `mulhu`: both operands unsigned (43 R246). -/
def mulHighUnsigned (a b : Word) : Word := upperWord (a.setWidth 64 * b.setWidth 64)

/-- `div`: the quotient rounded towards zero; by zero all ones; the overflowing quotient wraps (43 R241). -/
def divSigned (a b : Word) : Word := if b = 0 then 0xffffffff else BitVec.ofInt 32 (a.toInt.tdiv b.toInt)

/-- `rem`: the remainder with the sign of the dividend; by zero the dividend; 0 where the quotient overflows (43 R247). -/
def remSigned (a b : Word) : Word := if b = 0 then a else BitVec.ofInt 32 (a.toInt.tmod b.toInt)

/-- `divu` (43 R242). -/
def divUnsigned (a b : Word) : Word := if b = 0 then 0xffffffff else BitVec.ofNat 32 (a.toNat / b.toNat)

/-- `remu` (43 R248). -/
def remUnsigned (a b : Word) : Word := if b = 0 then a else BitVec.ofNat 32 (a.toNat % b.toNat)

/-! ### Minima and maxima -/

/-- `max` and `amomax.w` (46 R329, 44 R264). -/
def maxSigned (a b : Word) : Word := if lessSigned a b then b else a
/-- `maxu` and `amomaxu.w` (46 R330, 44 R265). -/
def maxUnsigned (a b : Word) : Word := if lessUnsigned a b then b else a
/-- `min` and `amomin.w` (46 R331, 44 R266). -/
def minSigned (a b : Word) : Word := if lessSigned a b then a else b
/-- `minu` and `amominu.w` (46 R332, 44 R267). -/
def minUnsigned (a b : Word) : Word := if lessUnsigned a b then a else b

/-! ### Counting -/

/-- How many zeros stand at bit n-1 and below it before the first one. -/
def leadingZeros : Nat → Word → Nat
  | 0, _ => 0
  | n + 1, v => if v.getLsbD n then 0 else leadingZeros n v + 1

/-- How many zeros stand at bit i and above it, among n bits, before the first one. -/
def trailingZeros : Nat → Nat → Word → Nat
  | 0, _, _ => 0
  | n + 1, i, v => if v.getLsbD i then 0 else trailingZeros n (i + 1) v + 1

/-- How many of the low n bits are ones. -/
def onesBelow : Nat → Word → Nat
  | 0, _ => 0
  | n + 1, v => onesBelow n v + (if v.getLsbD n then 1 else 0)

/-- `clz` (46 R326). -/
def countLeadingZeros (v : Word) : Word := BitVec.ofNat 32 (leadingZeros 32 v)
/-- `ctz` (46 R328). -/
def countTrailingZeros (v : Word) : Word := BitVec.ofNat 32 (trailingZeros 32 0 v)
/-- `cpop` (46 R327). -/
def countOnes (v : Word) : Word := BitVec.ofNat 32 (onesBelow 32 v)

/-! ### Permutations of bits and bytes -/

/-- The word whose low n bits are given bit by bit. -/
def bitsBelow (f : Nat → Bool) : Nat → Word
  | 0 => 0
  | n + 1 => bitsBelow f n ||| (if f n then 1#32 <<< n else 0)

/-- The word whose bits are given bit by bit. -/
def wordOfBits (f : Nat → Bool) : Word := bitsBelow f 32

/-- Byte k of a word, the least significant first. -/
def byteOf (v : Word) (k : Nat) : Byte := v.extractLsb' (8 * k) 8

/-- A byte with all bits set where the byte is not zero (46 R333). -/
def orByte (b : Byte) : Byte := if b = 0 then 0 else 0xff

/-- `orc.b` (46 R333). -/
def orCombine (v : Word) : Word := orByte (byteOf v 3) ++ orByte (byteOf v 2) ++ orByte (byteOf v 1) ++ orByte (byteOf v 0)

/-- `rev8`: the bytes in reverse order (46 R335). -/
def reverseBytes (v : Word) : Word := byteOf v 0 ++ byteOf v 1 ++ byteOf v 2 ++ byteOf v 3

/-- `brev8`: the bits of each byte in reverse order (47 R360). -/
def reverseBitsInBytes (v : Word) : Word := wordOfBits fun i => v.getLsbD (8 * (i / 8) + (7 - i % 8))

/-- `zip`: the lower half to the even bits, the upper half to the odd bits (47 R364). -/
def interleave (v : Word) : Word := wordOfBits fun i => v.getLsbD (i / 2 + 16 * (i % 2))

/-- `unzip`: the even bits to the lower half, the odd bits to the upper half (47 R363). -/
def deinterleave (v : Word) : Word := wordOfBits fun i => v.getLsbD (2 * (i % 16) + i / 16)

/-- `pack` (47 R361). -/
def packHalves (a b : Word) : Word := b.extractLsb' 0 16 ++ a.extractLsb' 0 16

/-- `packh` (47 R362). -/
def packBytes (a b : Word) : Word := 0#16 ++ b.extractLsb' 0 8 ++ a.extractLsb' 0 8

/-! ### Single bits (47 R350) -/

/-- The word with one bit set. -/
def oneHot (n : Nat) : Word := 1#32 <<< n

/-- `bclr` (47 R351). -/
def clearBit (a : Word) (n : Nat) : Word := a &&& ~~~ oneHot n
/-- `bext` (47 R353). -/
def extractBit (a : Word) (n : Nat) : Word := (a >>> n) &&& 1
/-- `binv` (47 R355). -/
def invertBit (a : Word) (n : Nat) : Word := a ^^^ oneHot n
/-- `bset` (47 R357). -/
def setBit (a : Word) (n : Nat) : Word := a ||| oneHot n

end Sys2Proof.Machine
end

