-- ==== Sys2Proof/Machine/Alu.lean ====
section
/-!
DEFINITION. Integer computation of RV32I: register-register, register-immediate and upper immediates
(spec/40_rv32i_alu.md). The operands are read before rd is written (00 R12).
-/

namespace Sys2Proof.Machine

/-- `add` (40 R171). -/
def execAdd (rd : RegIdx) (rs1 : RegIdx) (rs2 : RegIdx) (s : State) : Result := writeReg 4 rd (s.reg rs1 + s.reg rs2) s

/-- `and` (40 R172). -/
def execAnd (rd : RegIdx) (rs1 : RegIdx) (rs2 : RegIdx) (s : State) : Result := writeReg 4 rd (s.reg rs1 &&& s.reg rs2) s

/-- `or` (40 R173). -/
def execOr (rd : RegIdx) (rs1 : RegIdx) (rs2 : RegIdx) (s : State) : Result := writeReg 4 rd (s.reg rs1 ||| s.reg rs2) s

/-- `sll` (40 R174). -/
def execSll (rd : RegIdx) (rs1 : RegIdx) (rs2 : RegIdx) (s : State) : Result :=
  writeReg 4 rd (s.reg rs1 <<< shiftAmount (s.reg rs2)) s

/-- `slt` (40 R175). -/
def execSlt (rd : RegIdx) (rs1 : RegIdx) (rs2 : RegIdx) (s : State) : Result :=
  writeReg 4 rd (truthWord (lessSigned (s.reg rs1) (s.reg rs2))) s

/-- `sltu` (40 R176). -/
def execSltu (rd : RegIdx) (rs1 : RegIdx) (rs2 : RegIdx) (s : State) : Result :=
  writeReg 4 rd (truthWord (lessUnsigned (s.reg rs1) (s.reg rs2))) s

/-- `sra` (40 R177). -/
def execSra (rd : RegIdx) (rs1 : RegIdx) (rs2 : RegIdx) (s : State) : Result :=
  writeReg 4 rd (shiftRightArith (s.reg rs1) (shiftAmount (s.reg rs2))) s

/-- `srl` (40 R178). -/
def execSrl (rd : RegIdx) (rs1 : RegIdx) (rs2 : RegIdx) (s : State) : Result :=
  writeReg 4 rd (s.reg rs1 >>> shiftAmount (s.reg rs2)) s

/-- `sub` (40 R179). -/
def execSub (rd : RegIdx) (rs1 : RegIdx) (rs2 : RegIdx) (s : State) : Result := writeReg 4 rd (s.reg rs1 - s.reg rs2) s

/-- `xor` (40 R180). -/
def execXor (rd : RegIdx) (rs1 : RegIdx) (rs2 : RegIdx) (s : State) : Result := writeReg 4 rd (s.reg rs1 ^^^ s.reg rs2) s

/-- `addi` (40 R182). -/
def execAddi (rd : RegIdx) (rs1 : RegIdx) (imm : BitVec 12) (s : State) : Result :=
  writeReg 4 rd (s.reg rs1 + signExtend imm) s

/-- `andi` (40 R183). -/
def execAndi (rd : RegIdx) (rs1 : RegIdx) (imm : BitVec 12) (s : State) : Result :=
  writeReg 4 rd (s.reg rs1 &&& signExtend imm) s

/-- `ori` (40 R184). -/
def execOri (rd : RegIdx) (rs1 : RegIdx) (imm : BitVec 12) (s : State) : Result :=
  writeReg 4 rd (s.reg rs1 ||| signExtend imm) s

/-- `slli` (40 R185). -/
def execSlli (rd : RegIdx) (rs1 : RegIdx) (shamt : BitVec 5) (s : State) : Result :=
  writeReg 4 rd (s.reg rs1 <<< shamt.toNat) s

/-- `slti` (40 R186). -/
def execSlti (rd : RegIdx) (rs1 : RegIdx) (imm : BitVec 12) (s : State) : Result :=
  writeReg 4 rd (truthWord (lessSigned (s.reg rs1) (signExtend imm))) s

/-- `sltiu` (40 R187). -/
def execSltiu (rd : RegIdx) (rs1 : RegIdx) (imm : BitVec 12) (s : State) : Result :=
  writeReg 4 rd (truthWord (lessUnsigned (s.reg rs1) (signExtend imm))) s

/-- `srai` (40 R188). -/
def execSrai (rd : RegIdx) (rs1 : RegIdx) (shamt : BitVec 5) (s : State) : Result :=
  writeReg 4 rd (shiftRightArith (s.reg rs1) shamt.toNat) s

/-- `srli` (40 R189). -/
def execSrli (rd : RegIdx) (rs1 : RegIdx) (shamt : BitVec 5) (s : State) : Result :=
  writeReg 4 rd (s.reg rs1 >>> shamt.toNat) s

/-- `xori` (40 R190). -/
def execXori (rd : RegIdx) (rs1 : RegIdx) (imm : BitVec 12) (s : State) : Result :=
  writeReg 4 rd (s.reg rs1 ^^^ signExtend imm) s

/-- `auipc` (40 R192). -/
def execAuipc (rd : RegIdx) (imm : BitVec 20) (s : State) : Result := writeReg 4 rd (s.hart.pc + upperImmediate imm) s

/-- `lui` (40 R193). -/
def execLui (rd : RegIdx) (imm : BitVec 20) (s : State) : Result := writeReg 4 rd (upperImmediate imm) s

end Sys2Proof.Machine
end

