-- ==== Sys2Proof/Machine/Atomics.lean ====
section
/-!
DEFINITION. The A extension (spec/44_a_atomics.md). The address is x[rs1]; aq and rl order nothing further and are ignored
(44 R261, 20 R103).
-/

namespace Sys2Proof.Machine

/-- `amoadd.w` (44 R262). -/
def execAmoaddW (rd : RegIdx) (rs1 : RegIdx) (rs2 : RegIdx) (_aq : Bool) (_rl : Bool) (s : State) : Result :=
  atomicUpdate (fun old v => old + v) rd (s.reg rs1) (s.reg rs2) s

/-- `amoand.w` (44 R263). -/
def execAmoandW (rd : RegIdx) (rs1 : RegIdx) (rs2 : RegIdx) (_aq : Bool) (_rl : Bool) (s : State) : Result :=
  atomicUpdate (fun old v => old &&& v) rd (s.reg rs1) (s.reg rs2) s

/-- `amomax.w` (44 R264). -/
def execAmomaxW (rd : RegIdx) (rs1 : RegIdx) (rs2 : RegIdx) (_aq : Bool) (_rl : Bool) (s : State) : Result :=
  atomicUpdate maxSigned rd (s.reg rs1) (s.reg rs2) s

/-- `amomaxu.w` (44 R265). -/
def execAmomaxuW (rd : RegIdx) (rs1 : RegIdx) (rs2 : RegIdx) (_aq : Bool) (_rl : Bool) (s : State) : Result :=
  atomicUpdate maxUnsigned rd (s.reg rs1) (s.reg rs2) s

/-- `amomin.w` (44 R266). -/
def execAmominW (rd : RegIdx) (rs1 : RegIdx) (rs2 : RegIdx) (_aq : Bool) (_rl : Bool) (s : State) : Result :=
  atomicUpdate minSigned rd (s.reg rs1) (s.reg rs2) s

/-- `amominu.w` (44 R267). -/
def execAmominuW (rd : RegIdx) (rs1 : RegIdx) (rs2 : RegIdx) (_aq : Bool) (_rl : Bool) (s : State) : Result :=
  atomicUpdate minUnsigned rd (s.reg rs1) (s.reg rs2) s

/-- `amoor.w` (44 R268). -/
def execAmoorW (rd : RegIdx) (rs1 : RegIdx) (rs2 : RegIdx) (_aq : Bool) (_rl : Bool) (s : State) : Result :=
  atomicUpdate (fun old v => old ||| v) rd (s.reg rs1) (s.reg rs2) s

/-- `amoswap.w` (44 R269). -/
def execAmoswapW (rd : RegIdx) (rs1 : RegIdx) (rs2 : RegIdx) (_aq : Bool) (_rl : Bool) (s : State) : Result :=
  atomicUpdate (fun _ v => v) rd (s.reg rs1) (s.reg rs2) s

/-- `amoxor.w` (44 R270). -/
def execAmoxorW (rd : RegIdx) (rs1 : RegIdx) (rs2 : RegIdx) (_aq : Bool) (_rl : Bool) (s : State) : Result :=
  atomicUpdate (fun old v => old ^^^ v) rd (s.reg rs1) (s.reg rs2) s

/-- `lr.w` (44 R271). -/
def execLrW (rd : RegIdx) (rs1 : RegIdx) (_aq : Bool) (_rl : Bool) (s : State) : Result := loadReserved rd (s.reg rs1) s

/-- `sc.w` (44 R272). -/
def execScW (rd : RegIdx) (rs1 : RegIdx) (rs2 : RegIdx) (_aq : Bool) (_rl : Bool) (s : State) : Result :=
  storeConditional rd (s.reg rs1) (s.reg rs2) s

end Sys2Proof.Machine
end

