-- ==== Sys2Proof/Machine/BitManip.lean ====
section
/-!
DEFINITION. Bit manipulation: Zba, Zbb, Zbs and Zbkb (spec/46_zba_zbb.md, spec/47_zbs_zbkb.md).
-/

namespace Sys2Proof.Machine

/-- `sh1add` (46 R321). -/
def execSh1add (rd : RegIdx) (rs1 : RegIdx) (rs2 : RegIdx) (s : State) : Result :=
  writeReg 4 rd (s.reg rs2 + s.reg rs1 <<< 1) s

/-- `sh2add` (46 R322). -/
def execSh2add (rd : RegIdx) (rs1 : RegIdx) (rs2 : RegIdx) (s : State) : Result :=
  writeReg 4 rd (s.reg rs2 + s.reg rs1 <<< 2) s

/-- `sh3add` (46 R323). -/
def execSh3add (rd : RegIdx) (rs1 : RegIdx) (rs2 : RegIdx) (s : State) : Result :=
  writeReg 4 rd (s.reg rs2 + s.reg rs1 <<< 3) s

/-- `andn` (46 R325). -/
def execAndn (rd : RegIdx) (rs1 : RegIdx) (rs2 : RegIdx) (s : State) : Result :=
  writeReg 4 rd (s.reg rs1 &&& ~~~ s.reg rs2) s

/-- `clz` (46 R326). -/
def execClz (rd : RegIdx) (rs1 : RegIdx) (s : State) : Result := writeReg 4 rd (countLeadingZeros (s.reg rs1)) s

/-- `cpop` (46 R327). -/
def execCpop (rd : RegIdx) (rs1 : RegIdx) (s : State) : Result := writeReg 4 rd (countOnes (s.reg rs1)) s

/-- `ctz` (46 R328). -/
def execCtz (rd : RegIdx) (rs1 : RegIdx) (s : State) : Result := writeReg 4 rd (countTrailingZeros (s.reg rs1)) s

/-- `max` (46 R329). -/
def execMax (rd : RegIdx) (rs1 : RegIdx) (rs2 : RegIdx) (s : State) : Result :=
  writeReg 4 rd (maxSigned (s.reg rs1) (s.reg rs2)) s

/-- `maxu` (46 R330). -/
def execMaxu (rd : RegIdx) (rs1 : RegIdx) (rs2 : RegIdx) (s : State) : Result :=
  writeReg 4 rd (maxUnsigned (s.reg rs1) (s.reg rs2)) s

/-- `min` (46 R331). -/
def execMin (rd : RegIdx) (rs1 : RegIdx) (rs2 : RegIdx) (s : State) : Result :=
  writeReg 4 rd (minSigned (s.reg rs1) (s.reg rs2)) s

/-- `minu` (46 R332). -/
def execMinu (rd : RegIdx) (rs1 : RegIdx) (rs2 : RegIdx) (s : State) : Result :=
  writeReg 4 rd (minUnsigned (s.reg rs1) (s.reg rs2)) s

/-- `orc.b` (46 R333). -/
def execOrcB (rd : RegIdx) (rs1 : RegIdx) (s : State) : Result := writeReg 4 rd (orCombine (s.reg rs1)) s

/-- `orn` (46 R334). -/
def execOrn (rd : RegIdx) (rs1 : RegIdx) (rs2 : RegIdx) (s : State) : Result := writeReg 4 rd (s.reg rs1 ||| ~~~ s.reg rs2) s

/-- `rev8` (46 R335). -/
def execRev8 (rd : RegIdx) (rs1 : RegIdx) (s : State) : Result := writeReg 4 rd (reverseBytes (s.reg rs1)) s

/-- `rol` (46 R336). -/
def execRol (rd : RegIdx) (rs1 : RegIdx) (rs2 : RegIdx) (s : State) : Result :=
  writeReg 4 rd (rotateLeft (s.reg rs1) (shiftAmount (s.reg rs2))) s

/-- `ror` (46 R337). -/
def execRor (rd : RegIdx) (rs1 : RegIdx) (rs2 : RegIdx) (s : State) : Result :=
  writeReg 4 rd (rotateRight (s.reg rs1) (shiftAmount (s.reg rs2))) s

/-- `rori` (46 R338). -/
def execRori (rd : RegIdx) (rs1 : RegIdx) (shamt : BitVec 5) (s : State) : Result :=
  writeReg 4 rd (rotateRight (s.reg rs1) shamt.toNat) s

/-- `sext.b` (46 R339). -/
def execSextB (rd : RegIdx) (rs1 : RegIdx) (s : State) : Result := writeReg 4 rd (signExtend ((s.reg rs1).extractLsb' 0 8)) s

/-- `sext.h` (46 R340). -/
def execSextH (rd : RegIdx) (rs1 : RegIdx) (s : State) : Result :=
  writeReg 4 rd (signExtend ((s.reg rs1).extractLsb' 0 16)) s

/-- `xnor` (46 R341). -/
def execXnor (rd : RegIdx) (rs1 : RegIdx) (rs2 : RegIdx) (s : State) : Result :=
  writeReg 4 rd (~~~ (s.reg rs1 ^^^ s.reg rs2)) s

/-- `zext.h` (46 R342). -/
def execZextH (rd : RegIdx) (rs1 : RegIdx) (s : State) : Result :=
  writeReg 4 rd (zeroExtend ((s.reg rs1).extractLsb' 0 16)) s

/-- `bclr` (47 R351). -/
def execBclr (rd : RegIdx) (rs1 : RegIdx) (rs2 : RegIdx) (s : State) : Result :=
  writeReg 4 rd (clearBit (s.reg rs1) (shiftAmount (s.reg rs2))) s

/-- `bclri` (47 R352). -/
def execBclri (rd : RegIdx) (rs1 : RegIdx) (shamt : BitVec 5) (s : State) : Result :=
  writeReg 4 rd (clearBit (s.reg rs1) shamt.toNat) s

/-- `bext` (47 R353). -/
def execBext (rd : RegIdx) (rs1 : RegIdx) (rs2 : RegIdx) (s : State) : Result :=
  writeReg 4 rd (extractBit (s.reg rs1) (shiftAmount (s.reg rs2))) s

/-- `bexti` (47 R354). -/
def execBexti (rd : RegIdx) (rs1 : RegIdx) (shamt : BitVec 5) (s : State) : Result :=
  writeReg 4 rd (extractBit (s.reg rs1) shamt.toNat) s

/-- `binv` (47 R355). -/
def execBinv (rd : RegIdx) (rs1 : RegIdx) (rs2 : RegIdx) (s : State) : Result :=
  writeReg 4 rd (invertBit (s.reg rs1) (shiftAmount (s.reg rs2))) s

/-- `binvi` (47 R356). -/
def execBinvi (rd : RegIdx) (rs1 : RegIdx) (shamt : BitVec 5) (s : State) : Result :=
  writeReg 4 rd (invertBit (s.reg rs1) shamt.toNat) s

/-- `bset` (47 R357). -/
def execBset (rd : RegIdx) (rs1 : RegIdx) (rs2 : RegIdx) (s : State) : Result :=
  writeReg 4 rd (setBit (s.reg rs1) (shiftAmount (s.reg rs2))) s

/-- `bseti` (47 R358). -/
def execBseti (rd : RegIdx) (rs1 : RegIdx) (shamt : BitVec 5) (s : State) : Result :=
  writeReg 4 rd (setBit (s.reg rs1) shamt.toNat) s

/-- `brev8` (47 R360). -/
def execBrev8 (rd : RegIdx) (rs1 : RegIdx) (s : State) : Result := writeReg 4 rd (reverseBitsInBytes (s.reg rs1)) s

/-- `pack` (47 R361). -/
def execPack (rd : RegIdx) (rs1 : RegIdx) (rs2 : RegIdx) (s : State) : Result :=
  writeReg 4 rd (packHalves (s.reg rs1) (s.reg rs2)) s

/-- `packh` (47 R362). -/
def execPackh (rd : RegIdx) (rs1 : RegIdx) (rs2 : RegIdx) (s : State) : Result :=
  writeReg 4 rd (packBytes (s.reg rs1) (s.reg rs2)) s

/-- `unzip` (47 R363). -/
def execUnzip (rd : RegIdx) (rs1 : RegIdx) (s : State) : Result := writeReg 4 rd (deinterleave (s.reg rs1)) s

/-- `zip` (47 R364). -/
def execZip (rd : RegIdx) (rs1 : RegIdx) (s : State) : Result := writeReg 4 rd (interleave (s.reg rs1)) s

end Sys2Proof.Machine
end

