-- ==== Sys2Proof/Machine/ControlTransfer.lean ====
section
/-!
DEFINITION. Branches and jumps of RV32I (spec/41_rv32i_control_transfer.md). An offset counts from the address of the
instruction itself (10 R35); no target is misaligned (41 R209).
-/

namespace Sys2Proof.Machine

/-- A conditional branch: to pc + offset where it is taken, else to the next instruction (41 R200). -/
def branch (len : Word) (taken : Bool) (offset : Word) (s : State) : Result :=
  if taken then finishAt (s.hart.pc + offset) s else finish len s

/-- A jump: rd gets the address after the instruction, the target is known before rd is written (41 R207, R208). -/
def jumpAndLink (len : Word) (rd : RegIdx) (target : Word) (s : State) : Result :=
  finishAt target (s.setReg rd (s.hart.pc + len))

/-- `beq` (41 R201). -/
def execBeq (rs1 : RegIdx) (rs2 : RegIdx) (offset : BitVec 13) (s : State) : Result :=
  branch 4 (s.reg rs1 == s.reg rs2) (signExtend offset) s

/-- `bge` (41 R202). -/
def execBge (rs1 : RegIdx) (rs2 : RegIdx) (offset : BitVec 13) (s : State) : Result :=
  branch 4 (!lessSigned (s.reg rs1) (s.reg rs2)) (signExtend offset) s

/-- `bgeu` (41 R203). -/
def execBgeu (rs1 : RegIdx) (rs2 : RegIdx) (offset : BitVec 13) (s : State) : Result :=
  branch 4 (!lessUnsigned (s.reg rs1) (s.reg rs2)) (signExtend offset) s

/-- `blt` (41 R204). -/
def execBlt (rs1 : RegIdx) (rs2 : RegIdx) (offset : BitVec 13) (s : State) : Result :=
  branch 4 (lessSigned (s.reg rs1) (s.reg rs2)) (signExtend offset) s

/-- `bltu` (41 R205). -/
def execBltu (rs1 : RegIdx) (rs2 : RegIdx) (offset : BitVec 13) (s : State) : Result :=
  branch 4 (lessUnsigned (s.reg rs1) (s.reg rs2)) (signExtend offset) s

/-- `bne` (41 R206). -/
def execBne (rs1 : RegIdx) (rs2 : RegIdx) (offset : BitVec 13) (s : State) : Result :=
  branch 4 (s.reg rs1 != s.reg rs2) (signExtend offset) s

/-- `jal` (41 R207). -/
def execJal (rd : RegIdx) (offset : BitVec 21) (s : State) : Result := jumpAndLink 4 rd (s.hart.pc + signExtend offset) s

/-- `jalr` (41 R208). -/
def execJalr (rd : RegIdx) (rs1 : RegIdx) (imm : BitVec 12) (s : State) : Result :=
  jumpAndLink 4 rd ((s.reg rs1 + signExtend imm) &&& 0xfffffffe) s

end Sys2Proof.Machine
end

