-- ==== Sys2Proof/Machine/Compressed.lean ====
section
/-!
DEFINITION. The C extension (spec/45_c_compressed.md), but for c.ebreak: each form does what the 32-bit instruction that it stands for
does, with a length of 2 (30 R135).
-/

namespace Sys2Proof.Machine

/-- `c.addi4spn` (45 R283): `addi rd', x2, nzuimm`. -/
def execCAddi4spn (rd : CReg) (uimm : BitVec 10) (s : State) : Result := writeReg 2 (cReg rd) (s.reg sp + zeroExtend uimm) s

/-- `c.lw` (45 R284): `lw rd', uimm(rs1')`. -/
def execCLw (rd : CReg) (rs1 : CReg) (uimm : BitVec 7) (s : State) : Result :=
  loadWord 2 (cReg rd) (s.reg (cReg rs1) + zeroExtend uimm) s

/-- `c.sw` (45 R285): `sw rs2', uimm(rs1')`. -/
def execCSw (rs1 : CReg) (rs2 : CReg) (uimm : BitVec 7) (s : State) : Result :=
  storeWord 2 (s.reg (cReg rs1) + zeroExtend uimm) (s.reg (cReg rs2)) s

/-- `c.nop` (45 R286): `addi x0, x0, nzimm`. -/
def execCNop (imm : BitVec 6) (s : State) : Result := writeReg 2 0 (s.reg 0 + signExtend imm) s

/-- `c.addi` (45 R287): `addi rd, rd, nzimm`. -/
def execCAddi (rd : RegIdx) (imm : BitVec 6) (s : State) : Result := writeReg 2 rd (s.reg rd + signExtend imm) s

/-- `c.jal` (45 R288): `jal x1, imm`. -/
def execCJal (offset : BitVec 12) (s : State) : Result := jumpAndLink 2 ra (s.hart.pc + signExtend offset) s

/-- `c.li` (45 R289): `addi rd, x0, imm`. -/
def execCLi (rd : RegIdx) (imm : BitVec 6) (s : State) : Result := writeReg 2 rd (s.reg 0 + signExtend imm) s

/-- `c.addi16sp` (45 R290): `addi x2, x2, nzimm`. -/
def execCAddi16sp (imm : BitVec 10) (s : State) : Result := writeReg 2 sp (s.reg sp + signExtend imm) s

/-- `c.lui` (45 R291): `lui rd, nzimm[17:12] sign-extended`. -/
def execCLui (rd : RegIdx) (imm : BitVec 6) (s : State) : Result := writeReg 2 rd (cUpperImmediate imm) s

/-- `c.srli` (45 R292): `srli rd', rd', shamt`. -/
def execCSrli (rd : CReg) (shamt : BitVec 5) (s : State) : Result := writeReg 2 (cReg rd) (s.reg (cReg rd) >>> shamt.toNat) s

/-- `c.srai` (45 R293): `srai rd', rd', shamt`. -/
def execCSrai (rd : CReg) (shamt : BitVec 5) (s : State) : Result :=
  writeReg 2 (cReg rd) (shiftRightArith (s.reg (cReg rd)) shamt.toNat) s

/-- `c.andi` (45 R294): `andi rd', rd', imm`. -/
def execCAndi (rd : CReg) (imm : BitVec 6) (s : State) : Result :=
  writeReg 2 (cReg rd) (s.reg (cReg rd) &&& signExtend imm) s

/-- `c.sub` (45 R295): `sub rd', rd', rs2'`. -/
def execCSub (rd : CReg) (rs2 : CReg) (s : State) : Result := writeReg 2 (cReg rd) (s.reg (cReg rd) - s.reg (cReg rs2)) s

/-- `c.xor` (45 R296): `xor rd', rd', rs2'`. -/
def execCXor (rd : CReg) (rs2 : CReg) (s : State) : Result := writeReg 2 (cReg rd) (s.reg (cReg rd) ^^^ s.reg (cReg rs2)) s

/-- `c.or` (45 R297): `or rd', rd', rs2'`. -/
def execCOr (rd : CReg) (rs2 : CReg) (s : State) : Result := writeReg 2 (cReg rd) (s.reg (cReg rd) ||| s.reg (cReg rs2)) s

/-- `c.and` (45 R298): `and rd', rd', rs2'`. -/
def execCAnd (rd : CReg) (rs2 : CReg) (s : State) : Result := writeReg 2 (cReg rd) (s.reg (cReg rd) &&& s.reg (cReg rs2)) s

/-- `c.j` (45 R299): `jal x0, imm`. -/
def execCJ (offset : BitVec 12) (s : State) : Result := jumpAndLink 2 0 (s.hart.pc + signExtend offset) s

/-- `c.beqz` (45 R300): `beq rs1', x0, imm`. -/
def execCBeqz (rs1 : CReg) (offset : BitVec 9) (s : State) : Result :=
  branch 2 (s.reg (cReg rs1) == s.reg 0) (signExtend offset) s

/-- `c.bnez` (45 R301): `bne rs1', x0, imm`. -/
def execCBnez (rs1 : CReg) (offset : BitVec 9) (s : State) : Result :=
  branch 2 (s.reg (cReg rs1) != s.reg 0) (signExtend offset) s

/-- `c.slli` (45 R302): `slli rd, rd, shamt`. -/
def execCSlli (rd : RegIdx) (shamt : BitVec 5) (s : State) : Result := writeReg 2 rd (s.reg rd <<< shamt.toNat) s

/-- `c.lwsp` (45 R303): `lw rd, uimm(x2)`. -/
def execCLwsp (rd : RegIdx) (uimm : BitVec 8) (s : State) : Result := loadWord 2 rd (s.reg sp + zeroExtend uimm) s

/-- `c.jr` (45 R304): `jalr x0, 0(rs1)`. -/
def execCJr (rs1 : RegIdx) (s : State) : Result := jumpAndLink 2 0 (s.reg rs1 &&& 0xfffffffe) s

/-- `c.mv` (45 R305): `add rd, x0, rs2`. -/
def execCMv (rd : RegIdx) (rs2 : RegIdx) (s : State) : Result := writeReg 2 rd (s.reg 0 + s.reg rs2) s

/-- `c.jalr` (45 R307): `jalr x1, 0(rs1)`. -/
def execCJalr (rs1 : RegIdx) (s : State) : Result := jumpAndLink 2 ra (s.reg rs1 &&& 0xfffffffe) s

/-- `c.add` (45 R308): `add rd, rd, rs2`. -/
def execCAdd (rd : RegIdx) (rs2 : RegIdx) (s : State) : Result := writeReg 2 rd (s.reg rd + s.reg rs2) s

/-- `c.swsp` (45 R309): `sw rs2, uimm(x2)`. -/
def execCSwsp (rs2 : RegIdx) (uimm : BitVec 8) (s : State) : Result := storeWord 2 (s.reg sp + zeroExtend uimm) (s.reg rs2) s

end Sys2Proof.Machine
end

