-- ==== Sys2Proof/Machine/LoadStore.lean ====
section
/-!
DEFINITION. Loads and stores of RV32I (spec/42_rv32i_load_store.md). The address is x[rs1] plus the immediate.
-/

namespace Sys2Proof.Machine

/-- `lb` (42 R222). -/
def execLb (rd : RegIdx) (rs1 : RegIdx) (imm : BitVec 12) (s : State) : Result :=
  loadByteSigned 4 rd (s.reg rs1 + signExtend imm) s

/-- `lbu` (42 R223). -/
def execLbu (rd : RegIdx) (rs1 : RegIdx) (imm : BitVec 12) (s : State) : Result :=
  loadByteUnsigned 4 rd (s.reg rs1 + signExtend imm) s

/-- `lh` (42 R224). -/
def execLh (rd : RegIdx) (rs1 : RegIdx) (imm : BitVec 12) (s : State) : Result :=
  loadHalfSigned 4 rd (s.reg rs1 + signExtend imm) s

/-- `lhu` (42 R225). -/
def execLhu (rd : RegIdx) (rs1 : RegIdx) (imm : BitVec 12) (s : State) : Result :=
  loadHalfUnsigned 4 rd (s.reg rs1 + signExtend imm) s

/-- `lw` (42 R226). -/
def execLw (rd : RegIdx) (rs1 : RegIdx) (imm : BitVec 12) (s : State) : Result :=
  loadWord 4 rd (s.reg rs1 + signExtend imm) s

/-- `sb` (42 R227). -/
def execSb (rs1 : RegIdx) (rs2 : RegIdx) (imm : BitVec 12) (s : State) : Result :=
  storeByteOf 4 (s.reg rs1 + signExtend imm) (s.reg rs2) s

/-- `sh` (42 R228). -/
def execSh (rs1 : RegIdx) (rs2 : RegIdx) (imm : BitVec 12) (s : State) : Result :=
  storeHalf 4 (s.reg rs1 + signExtend imm) (s.reg rs2) s

/-- `sw` (42 R229). -/
def execSw (rs1 : RegIdx) (rs2 : RegIdx) (imm : BitVec 12) (s : State) : Result :=
  storeWord 4 (s.reg rs1 + signExtend imm) (s.reg rs2) s

end Sys2Proof.Machine
end

