-- ==== Sys2Proof/Machine/MulDiv.lean ====
section
/-!
DEFINITION. Multiplication and division (spec/43_m_muldiv.md). None of them raises an exception.
-/

namespace Sys2Proof.Machine

/-- `div` (43 R241). -/
def execDiv (rd : RegIdx) (rs1 : RegIdx) (rs2 : RegIdx) (s : State) : Result :=
  writeReg 4 rd (divSigned (s.reg rs1) (s.reg rs2)) s

/-- `divu` (43 R242). -/
def execDivu (rd : RegIdx) (rs1 : RegIdx) (rs2 : RegIdx) (s : State) : Result :=
  writeReg 4 rd (divUnsigned (s.reg rs1) (s.reg rs2)) s

/-- `mul` (43 R243). -/
def execMul (rd : RegIdx) (rs1 : RegIdx) (rs2 : RegIdx) (s : State) : Result := writeReg 4 rd (s.reg rs1 * s.reg rs2) s

/-- `mulh` (43 R244). -/
def execMulh (rd : RegIdx) (rs1 : RegIdx) (rs2 : RegIdx) (s : State) : Result :=
  writeReg 4 rd (mulHighSigned (s.reg rs1) (s.reg rs2)) s

/-- `mulhsu` (43 R245). -/
def execMulhsu (rd : RegIdx) (rs1 : RegIdx) (rs2 : RegIdx) (s : State) : Result :=
  writeReg 4 rd (mulHighSignedUnsigned (s.reg rs1) (s.reg rs2)) s

/-- `mulhu` (43 R246). -/
def execMulhu (rd : RegIdx) (rs1 : RegIdx) (rs2 : RegIdx) (s : State) : Result :=
  writeReg 4 rd (mulHighUnsigned (s.reg rs1) (s.reg rs2)) s

/-- `rem` (43 R247). -/
def execRem (rd : RegIdx) (rs1 : RegIdx) (rs2 : RegIdx) (s : State) : Result :=
  writeReg 4 rd (remSigned (s.reg rs1) (s.reg rs2)) s

/-- `remu` (43 R248). -/
def execRemu (rd : RegIdx) (rs1 : RegIdx) (rs2 : RegIdx) (s : State) : Result :=
  writeReg 4 rd (remUnsigned (s.reg rs1) (s.reg rs2)) s

end Sys2Proof.Machine
end

