-- ==== Sys2Proof/Machine/Csr.lean ====
section
/-!
DEFINITION. The control and status registers: which exist, what a read shows, what a write leaves, and the checks of a CSR
instruction (spec/10_state.md R44 to R66, spec/49_fence_zicsr_privileged.md R404, R405). The spec writes most of them from
the Privileged Architecture and marks them as general knowledge.
-/

namespace Sys2Proof.Machine

/-- The registers of 10 R46 to R65. -/
inductive Csr where
  | mstatus | mstatush | misa | mie | mip | mtvec | mscratch | mepc | mcause | mtval | mcounteren | mcountinhibit
  | mcycle | mcycleh | minstret | minstreth | cycle | cycleh | instret | instreth | time | timeh
  /-- mhpmcounter3 to mhpmcounter31, their high halves, and mhpmevent3 to mhpmevent31 (10 R61). -/
  | hpm
  /-- pmpcfg0 to pmpcfg3 (10 R63). -/
  | pmpcfg (k : Fin 4)
  /-- pmpaddr0 to pmpaddr15 (10 R63). -/
  | pmpaddr (n : Fin 16)
  | mvendorid | marchid | mimpid | mhartid | mconfigptr
  /-- tselect, tdata1, tdata2 and tinfo (10 R64). -/
  | trigger
  /-- The custom range 0xbc0 to 0xbff (10 R65). -/
  | custom
  deriving DecidableEq, Repr

/-- The address lies in a range. -/
def inRange (a low high : CsrAddr) : Bool := decide (low ≤ a) && decide (a ≤ high)

/-- The register at an address, where the spec names one (10 R46 to R66). dcsr, dpc and their neighbours, 0x7b0 to 0x7b3, are
illegal outside Debug mode (10 R64; 92 D14), and medeleg and mideleg do not exist (10 R62). -/
def csrAt (a : CsrAddr) : Option Csr :=
  if a = 0x300 then some .mstatus
  else if a = 0x310 then some .mstatush
  else if a = 0x301 then some .misa
  else if a = 0x304 then some .mie
  else if a = 0x344 then some .mip
  else if a = 0x305 then some .mtvec
  else if a = 0x340 then some .mscratch
  else if a = 0x341 then some .mepc
  else if a = 0x342 then some .mcause
  else if a = 0x343 then some .mtval
  else if a = 0x306 then some .mcounteren
  else if a = 0x320 then some .mcountinhibit
  else if a = 0xb00 then some .mcycle
  else if a = 0xb80 then some .mcycleh
  else if a = 0xb02 then some .minstret
  else if a = 0xb82 then some .minstreth
  else if a = 0xc00 then some .cycle
  else if a = 0xc80 then some .cycleh
  else if a = 0xc02 then some .instret
  else if a = 0xc82 then some .instreth
  else if a = 0xc01 then some .time
  else if a = 0xc81 then some .timeh
  else if inRange a 0xb03 0xb1f || inRange a 0xb83 0xb9f || inRange a 0x323 0x33f then some .hpm
  else if inRange a 0x3a0 0x3a3 then some (.pmpcfg (a.extractLsb' 0 2).toFin)
  else if inRange a 0x3b0 0x3bf then some (.pmpaddr (a.extractLsb' 0 4).toFin)
  else if a = 0xf11 then some .mvendorid
  else if a = 0xf12 then some .marchid
  else if a = 0xf13 then some .mimpid
  else if a = 0xf14 then some .mhartid
  else if a = 0xf15 then some .mconfigptr
  else if a = 0x7a0 || a = 0x7a1 || a = 0x7a2 || a = 0x7a4 then some .trigger
  else if inRange a 0xbc0 0xbff then some .custom
  else none

/-- CsrImplemented: the registers of the spec but for those that the platform leaves out (92 D8; log 18). -/
def csrOf (plat : Platform) (a : CsrAddr) : Option Csr := if plat.csrAbsent.contains a then none else csrAt a

/-! ### Field by field views -/

/-- The value of a privilege level in MPP (10 R40, R46). -/
def Priv.bits : Priv → BitVec 2
  | .user => 0
  | .machine => 3

/-- mstatus as software reads it (10 R46). -/
def Mstatus.word (m : Mstatus) : Word :=
  0#10 ++ BitVec.ofBool m.tw ++ 0#3 ++ BitVec.ofBool m.mprv ++ 0#4 ++ m.mpp.bits ++ 0#3 ++ BitVec.ofBool m.mpie ++ 0#3 ++
    BitVec.ofBool m.mie ++ 0#3

/-- What MPP holds after a write of 1 or 2 (10 R46; log 16). -/
def MppIllegalWrite.apply (choice : MppIllegalWrite) (old : Priv) : Priv :=
  match choice with
  | .keepOld => old
  | .writeU => .user
  | .writeM => .machine

/-- What MPP holds after a write of the two bits v (10 R46). -/
def legalMpp (plat : Platform) (old : Priv) (v : BitVec 2) : Priv :=
  if v = 0 then .user
  else if v = 3 then .machine
  else if v = 1 then plat.mppOnOne.apply old
  else plat.mppOnTwo.apply old

/-- mstatus after a write (10 R46). -/
def Mstatus.write (plat : Platform) (m : Mstatus) (v : Word) : Mstatus where
  mie := v.getLsbD 3
  mpie := v.getLsbD 7
  mpp := legalMpp plat m.mpp (v.extractLsb' 11 2)
  mprv := v.getLsbD 17
  tw := v.getLsbD 21

/-- misa (10 R48): MXL 1, the letters A, C, I, M and U, and X where the platform shows it. -/
def misaWord (plat : Platform) : Word := if plat.misaX then 0x40901105 else 0x40101105

/-- mip (10 R50): the levels of the interrupt inputs. -/
def mipWord (inputs : Inputs) : Word :=
  0#20 ++ BitVec.ofBool inputs.meip ++ 0#3 ++ BitVec.ofBool inputs.mtip ++ 0#3 ++ BitVec.ofBool inputs.msip ++ 0#3

/-- The bits that mie holds: 3, 7 and 11 (10 R49). -/
def mieMask : Word := 0x888
/-- The bits that mtvec holds: all but bit 1 (10 R51). -/
def mtvecMask : Word := 0xfffffffd
/-- The bits that mepc holds: all but bit 0 (10 R53). -/
def mepcMask : Word := 0xfffffffe
/-- The bits that mcause holds: 31 and 3:0 (10 R54; log 37). -/
def mcauseMask : Word := 0x8000000f
/-- The bits that mcounteren holds: 2:0 (10 R57). -/
def mcounterenMask : Word := 7
/-- The bits that mcountinhibit holds: 0 and 2 (10 R58). -/
def mcountinhibitMask : Word := 5

/-- The low half of a counter. -/
def lowHalf (c : BitVec 64) : Word := c.extractLsb' 0 32
/-- The high half of a counter. -/
def highHalf (c : BitVec 64) : Word := c.extractLsb' 32 32

/-! ### Reading and writing -/

/-- What a read of the register gives (10 R46 to R64). -/
def csrRead (c : Csr) (s : State) : Word :=
  match c with
  | .mstatus => s.hart.mstatus.word
  | .mstatush => 0
  | .misa => misaWord s.plat
  | .mie => s.hart.mie
  | .mip => mipWord s.inputs
  | .mtvec => s.hart.mtvec
  | .mscratch => s.hart.mscratch
  | .mepc => s.hart.mepc
  | .mcause => s.hart.mcause
  | .mtval => 0
  | .mcounteren => s.hart.mcounteren
  | .mcountinhibit => s.hart.mcountinhibit
  | .mcycle => lowHalf s.hart.mcycle
  | .mcycleh => highHalf s.hart.mcycle
  | .minstret => lowHalf s.hart.minstret
  | .minstreth => highHalf s.hart.minstret
  | .cycle => lowHalf s.hart.mcycle
  | .cycleh => highHalf s.hart.mcycle
  | .instret => lowHalf s.hart.minstret
  | .instreth => highHalf s.hart.minstret
  | .time => lowHalf s.inputs.time
  | .timeh => highHalf s.inputs.time
  | .hpm => 0
  | .pmpcfg k => pmpCfgView s.plat s.hart k
  | .pmpaddr n => pmpAddrView s.plat s.hart n
  | .mvendorid => s.plat.mvendorid
  | .marchid => s.plat.marchid
  | .mimpid => s.plat.mimpid
  | .mhartid => zeroExtend s.hart.id
  | .mconfigptr => s.plat.mconfigptr
  | .trigger => s.inputs.csrDraw
  | .custom => 0

/-- What a write leaves in the hart (10 R46 to R64). A register that the spec says ignores writes, and one that is never written
because its address is read-only, leaves it as it is; so does a trigger register (log 19). -/
def Hart.csrWrite (plat : Platform) (c : Csr) (v : Word) (h : Hart) : Hart :=
  match c with
  | .mstatus => { h with mstatus := h.mstatus.write plat v }
  | .mie => { h with mie := v &&& mieMask }
  | .mtvec => { h with mtvec := v &&& mtvecMask }
  | .mscratch => { h with mscratch := v }
  | .mepc => { h with mepc := v &&& mepcMask }
  | .mcause => { h with mcause := v &&& mcauseMask }
  | .mcounteren => { h with mcounteren := v &&& mcounterenMask }
  | .mcountinhibit => { h with mcountinhibit := v &&& mcountinhibitMask }
  | .mcycle => { h with mcycle := highHalf h.mcycle ++ v }
  | .mcycleh => { h with mcycle := v ++ lowHalf h.mcycle }
  | .minstret => { h with minstret := highHalf h.minstret ++ v }
  | .minstreth => { h with minstret := v ++ lowHalf h.minstret }
  | .pmpcfg k => h.setPmpCfg plat k v
  | .pmpaddr n => h.setPmpAddr plat n v
  | .mstatush | .misa | .mip | .mtval | .cycle | .cycleh | .instret | .instreth | .time | .timeh | .hpm
  | .mvendorid | .marchid | .mimpid | .mhartid | .mconfigptr | .trigger | .custom => h

/-- What a write leaves in the machine. -/
def csrWrite (c : Csr) (v : Word) (s : State) : State := { s with hart := s.hart.csrWrite s.plat c v }

/-! ### The checks -/

/-- The privilege level that bits 9:8 of the address ask for: U where they are 0, M otherwise (10 R45). -/
def csrNeedsMachine (a : CsrAddr) : Bool := a.extractLsb' 8 2 != 0#2

/-- Bits 11:10 of the address mark a read-only register (10 R45). -/
def csrReadOnly (a : CsrAddr) : Bool := a.extractLsb' 10 2 == 3#2

/-- A counter that U-mode may read only where mcounteren says so (10 R57, R60). -/
def counterEnabled (h : Hart) (c : Csr) : Bool :=
  match c with
  | .cycle | .cycleh => h.mcounteren.getLsbD 0
  | .time | .timeh => h.mcounteren.getLsbD 1
  | .instret | .instreth => h.mcounteren.getLsbD 2
  | _ => true

/-- What the checks of a CSR instruction say. -/
inductive CsrVerdict where
  | access (c : Csr)
  | illegal
  deriving DecidableEq, Repr

/-- The checks of 49 R405 (2), for an instruction that writes or only reads. -/
def csrVerdict (a : CsrAddr) (writes : Bool) (s : State) : CsrVerdict :=
  match csrOf s.plat a with
  | none => .illegal
  | some c =>
    if s.hart.priv = .user && (csrNeedsMachine a || !counterEnabled s.hart c) then .illegal
    else if writes && csrReadOnly a then .illegal
    else .access c

/-! ### The instructions -/

/-- The register is a half of minstret, whose write stands in place of the increment (log 10). -/
def Csr.isInstret (c : Csr) : Bool :=
  match c with
  | .minstret | .minstreth => true
  | _ => false

/-- What is left of the machine after the value of the register was read: the retirement, the write where there is one, rd, and the
pc (49 R405 (4) to (6)). -/
def csrCommit (c : Csr) (write : Option Word) (rd : RegIdx) (s : State) : State :=
  match write with
  | none => ((s.retire.setReg rd (csrRead c s))).setPc (s.hart.pc + 4)
  | some v =>
    ((csrWrite c v (if c.isInstret then s else s.retire)).setReg rd (csrRead c s)).setPc (s.hart.pc + 4)

/-- A CSR instruction (49 R405). `write` is what the instruction would put in the register, as a function of its old value; none
where it only reads. A custom register is refused (10 R65; log 20). -/
def csrInstr (a : CsrAddr) (rd : RegIdx) (write : Option (Word → Word)) (s : State) : Result :=
  match csrVerdict a write.isSome s with
  | .illegal => raise .illegal s
  | .access .custom => .refused .customCsr
  | .access c => .next (csrCommit c (write.map fun f => f (csrRead c s)) rd s)

end Sys2Proof.Machine
end

