-- ==== Sys2Proof/Machine/System.lean ====
section
/-!
DEFINITION. Fences, CSR instructions and the privileged instructions (spec/49_fence_zicsr_privileged.md), with c.ebreak
(spec/45_c_compressed.md R306).
-/

namespace Sys2Proof.Machine

/-! ### Ordering -/

/-- `fence` (49 R401): a no-op, memory being sequentially consistent; its fields are ignored (30 R134). -/
def execFence (_fm _pred _succ : BitVec 4) (_rs1 _rd : RegIdx) (s : State) : Result := finish 4 s

/-- `fence.tso` (49 R402): a no-op. -/
def execFenceTso (s : State) : Result := finish 4 s

/-- The set W of the hart becomes empty (20 R111). -/
def State.clearStale (s : State) : State := { s with hart := { s.hart with stale := [] } }

/-- `fence.i` (49 R403): this hart's later fetches see every earlier store. -/
def execFenceI (_imm : BitVec 12) (_rs1 _rd : RegIdx) (s : State) : Result := finish 4 s.clearStale

/-! ### Zicsr (49 R405) -/

/-- `csrrw` (49 R410): it always writes. -/
def execCsrrw (rd : RegIdx) (csr : CsrAddr) (rs1 : RegIdx) (s : State) : Result :=
  csrInstr csr rd (some fun _ => s.reg rs1) s

/-- `csrrs` (49 R408): it writes unless rs1 is the register x0. -/
def execCsrrs (rd : RegIdx) (csr : CsrAddr) (rs1 : RegIdx) (s : State) : Result :=
  csrInstr csr rd (if rs1 = 0 then none else some fun old => old ||| s.reg rs1) s

/-- `csrrc` (49 R406): it writes unless rs1 is the register x0. -/
def execCsrrc (rd : RegIdx) (csr : CsrAddr) (rs1 : RegIdx) (s : State) : Result :=
  csrInstr csr rd (if rs1 = 0 then none else some fun old => old &&& ~~~ s.reg rs1) s

/-- `csrrwi` (49 R411): it always writes. -/
def execCsrrwi (rd : RegIdx) (csr : CsrAddr) (uimm : BitVec 5) (s : State) : Result :=
  csrInstr csr rd (some fun _ => zeroExtend uimm) s

/-- `csrrsi` (49 R409): it writes unless the immediate is 0. -/
def execCsrrsi (rd : RegIdx) (csr : CsrAddr) (uimm : BitVec 5) (s : State) : Result :=
  csrInstr csr rd (if uimm = 0 then none else some fun old => old ||| zeroExtend uimm) s

/-- `csrrci` (49 R407): it writes unless the immediate is 0. -/
def execCsrrci (rd : RegIdx) (csr : CsrAddr) (uimm : BitVec 5) (s : State) : Result :=
  csrInstr csr rd (if uimm = 0 then none else some fun old => old &&& ~~~ zeroExtend uimm) s

/-! ### Privileged instructions -/

/-- An attached debug host catches the breakpoint: DCSR.EBREAKM in M-mode, DCSR.EBREAKU in U-mode (49 R413; log 30). -/
def State.debugCatches (s : State) : Bool :=
  s.plat.debugAttached && (if s.hart.priv = .machine then s.hart.dcsrEbreakM else s.hart.dcsrEbreakU)

/-- A breakpoint: exception 3, or Debug mode, of which the spec says nothing (49 R413). -/
def breakpoint (s : State) : Result := if s.debugCatches then .refused .entersDebugMode else raise .breakpoint s

/-- `ebreak` (49 R413). -/
def execEbreak (s : State) : Result := breakpoint s

/-- `c.ebreak` (45 R306). -/
def execCEbreak (s : State) : Result := breakpoint s

/-- `ecall` (49 R414). -/
def execEcall (s : State) : Result := raise (if s.hart.priv = .machine then .ecallMachine else .ecallUser) s

/-- `mret` (49 R415): illegal in U-mode. -/
def execMret (s : State) : Result :=
  if s.hart.priv = .machine then .next (leaveTrap s).retire else raise .illegal s

/-- `wfi` (49 R416; 92 D20): a no-op, illegal in U-mode where mstatus.TW is set (log 31). -/
def execWfi (s : State) : Result :=
  if s.hart.priv = .user && s.hart.mstatus.tw then raise .illegal s else finish 4 s

end Sys2Proof.Machine
end

