-- ==== Sys2Proof/Machine/Zcb.lean ====
section
/-!
DEFINITION. The Zcb extension (spec/48_zcb_zcmp.md, section 1).
-/

namespace Sys2Proof.Machine

/-- `c.lbu` (48 R371): `lbu rd', uimm(rs1')`. -/
def execCLbu (rd : CReg) (rs1 : CReg) (uimm : BitVec 2) (s : State) : Result :=
  loadByteUnsigned 2 (cReg rd) (s.reg (cReg rs1) + zeroExtend uimm) s

/-- `c.lhu` (48 R372): `lhu rd', uimm(rs1')`. -/
def execCLhu (rd : CReg) (rs1 : CReg) (uimm : BitVec 2) (s : State) : Result :=
  loadHalfUnsigned 2 (cReg rd) (s.reg (cReg rs1) + zeroExtend uimm) s

/-- `c.lh` (48 R373): `lh rd', uimm(rs1')`. -/
def execCLh (rd : CReg) (rs1 : CReg) (uimm : BitVec 2) (s : State) : Result :=
  loadHalfSigned 2 (cReg rd) (s.reg (cReg rs1) + zeroExtend uimm) s

/-- `c.sb` (48 R374): `sb rs2', uimm(rs1')`. -/
def execCSb (rs1 : CReg) (rs2 : CReg) (uimm : BitVec 2) (s : State) : Result :=
  storeByteOf 2 (s.reg (cReg rs1) + zeroExtend uimm) (s.reg (cReg rs2)) s

/-- `c.sh` (48 R375): `sh rs2', uimm(rs1')`. -/
def execCSh (rs1 : CReg) (rs2 : CReg) (uimm : BitVec 2) (s : State) : Result :=
  storeHalf 2 (s.reg (cReg rs1) + zeroExtend uimm) (s.reg (cReg rs2)) s

/-- `c.zext.b` (48 R376): `andi rd', rd', 0xff`. -/
def execCZextB (rd : CReg) (s : State) : Result := writeReg 2 (cReg rd) (s.reg (cReg rd) &&& 0xff) s

/-- `c.sext.b` (48 R377): `sext.b rd', rd'`. -/
def execCSextB (rd : CReg) (s : State) : Result := writeReg 2 (cReg rd) (signExtend ((s.reg (cReg rd)).extractLsb' 0 8)) s

/-- `c.zext.h` (48 R378): `zext.h rd', rd'`. -/
def execCZextH (rd : CReg) (s : State) : Result := writeReg 2 (cReg rd) (zeroExtend ((s.reg (cReg rd)).extractLsb' 0 16)) s

/-- `c.sext.h` (48 R379): `sext.h rd', rd'`. -/
def execCSextH (rd : CReg) (s : State) : Result := writeReg 2 (cReg rd) (signExtend ((s.reg (cReg rd)).extractLsb' 0 16)) s

/-- `c.not` (48 R380): `xori rd', rd', -1`. -/
def execCNot (rd : CReg) (s : State) : Result := writeReg 2 (cReg rd) (s.reg (cReg rd) ^^^ signExtend 0xfff#12) s

/-- `c.mul` (48 R381): `mul rd', rd', rs2'`. -/
def execCMul (rd : CReg) (rs2 : CReg) (s : State) : Result := writeReg 2 (cReg rd) (s.reg (cReg rd) * s.reg (cReg rs2)) s

end Sys2Proof.Machine
end

