-- ==== Sys2Proof/Machine/Zcmp.lean ====
section
/-!
DEFINITION. The Zcmp extension (spec/48_zcb_zcmp.md, section 2). Each instruction is one step whose effect is that of its
sequence (48 R384; 92 D22; log 24).
-/

namespace Sys2Proof.Machine

/-- The access of a push or pop at an address: it raises where its checks fail, and the model refuses it at a device, where the
restart of an interrupted sequence would repeat it (93 item 33; log 13). -/
def stackAccess (v : Verdict) (a : Word) (s : State) (body : Result) : Result :=
  guarded v s (if s.plat.isDevice a then .refused .zcmpAtDevice else body)

/-- The stores of a `cm.push`, for the registers given in the order of the stores, downwards from an address. A store that raises
stops the instruction; the stores before it have happened (48 R384 (b), R385). -/
def pushAll (regs : List RegIdx) (a : Word) (s : State) (done : State → Result) : Result :=
  match regs with
  | [] => done s
  | r :: rest =>
    stackAccess (s.storeVerdict 4 (a - 4)) (a - 4) s (pushAll rest (a - 4) (s.store32 (a - 4) (s.reg r)) done)

/-- The checks of the loads of a pop, for the registers given in the order of the loads, downwards from an address: the first that
does not pass decides, and where all pass the pop goes on (48 R386). -/
def popGuarded (regs : List RegIdx) (a : Word) (s : State) (body : Result) : Result :=
  match regs with
  | [] => body
  | _ :: rest => stackAccess (s.loadVerdict 4 (a - 4)) (a - 4) s (popGuarded rest (a - 4) s body)

/-- The registers of a pop written, once every load has passed (48 R384 (b), R386). -/
def popAll (regs : List RegIdx) (a : Word) (s : State) : State :=
  match regs with
  | [] => s
  | r :: rest => popAll rest (a - 4) (s.setReg r (s.load32 (a - 4)))

/-- A pop: the loads, the registers, then sp; `done` is the rest of the instruction (48 R386 to R388). -/
def popThen (rlist : BitVec 4) (spimm : BitVec 2) (s : State) (done : State → Result) : Result :=
  popGuarded (registerList rlist).reverse (s.reg sp + stackAdjust rlist spimm) s
    (done ((popAll (registerList rlist).reverse (s.reg sp + stackAdjust rlist spimm) s).setReg sp
      (s.reg sp + stackAdjust rlist spimm)))

/-- The `ret` at the end of a pop: to the ra just loaded, with bit 0 cleared (48 R387, 41 R208). -/
def returnTo (s : State) : Result := finishAt (s.reg ra &&& 0xfffffffe) s

/-- `cm.push` (48 R385): sp is written after every store. -/
def execCmPush (rlist : BitVec 4) (spimm : BitVec 2) (s : State) : Result :=
  pushAll (registerList rlist).reverse (s.reg sp) s fun t => writeReg 2 sp (t.reg sp - stackAdjust rlist spimm) t

/-- `cm.pop` (48 R386). -/
def execCmPop (rlist : BitVec 4) (spimm : BitVec 2) (s : State) : Result := popThen rlist spimm s (finish 2)

/-- `cm.popretz` (48 R387): a0 gets 0. -/
def execCmPopretz (rlist : BitVec 4) (spimm : BitVec 2) (s : State) : Result :=
  popThen rlist spimm s fun t => returnTo (t.setReg a0 0)

/-- `cm.popret` (48 R388). -/
def execCmPopret (rlist : BitVec 4) (spimm : BitVec 2) (s : State) : Result := popThen rlist spimm s returnTo

/-- `cm.mvsa01` (48 R389). -/
def execCmMvsa01 (r1s r2s : SReg) (s : State) : Result :=
  finish 2 ((s.setReg (sReg r1s) (s.reg a0)).setReg (sReg r2s) (s.reg a1))

/-- `cm.mva01s` (48 R390). -/
def execCmMva01s (r1s r2s : SReg) (s : State) : Result :=
  finish 2 ((s.setReg a0 (s.reg (sReg r1s))).setReg a1 (s.reg (sReg r2s)))

end Sys2Proof.Machine
end

