-- ==== Sys2Proof/WellFormed.lean ====
section
/-!
DEFINITION. What a well-formed instruction is: one that some encoding stands for. Each check names the rule that asks for
it. Operands whose every value can be encoded need no check.
-/

namespace Sys2Proof

/-- A byte offset whose bit 0 is 0: "even values" (30 R126, R127). -/
def isEven {n : Nat} (offset : BitVec n) : Bool := offset.extractLsb' 0 1 == 0#1

/-- A multiple of four (30 R127). -/
def isMultipleOf4 {n : Nat} (uimm : BitVec n) : Bool := uimm.extractLsb' 0 2 == 0#2

/-- A multiple of sixteen (30 R127). -/
def isMultipleOf16 {n : Nat} (imm : BitVec n) : Bool := imm.extractLsb' 0 4 == 0#4

/-- A register list of Zcmp: the values 0 to 3 are reserved (30 R136). -/
def isRegisterList (rlist : BitVec 4) : Bool := decide (4#4 ≤ rlist)

/-- The one word of `fence` that is `fence.tso`, 0x8330000f (49 R402, 30 R135). -/
def isFenceTso (fm pred succ : BitVec 4) (rs1 rd : RegIdx) : Bool :=
  fm == 8#4 && pred == 3#4 && succ == 3#4 && rs1 == 0#5 && rd == 0#5

/-- The instruction has an encoding of its own. -/
def Instr.wf : Instr → Bool
  | .add _ _ _ => true
  | .and _ _ _ => true
  | .or _ _ _ => true
  | .sll _ _ _ => true
  | .slt _ _ _ => true
  | .sltu _ _ _ => true
  | .sra _ _ _ => true
  | .srl _ _ _ => true
  | .sub _ _ _ => true
  | .xor _ _ _ => true
  | .addi _ _ _ => true
  | .andi _ _ _ => true
  | .ori _ _ _ => true
  | .slli _ _ _ => true
  | .slti _ _ _ => true
  | .sltiu _ _ _ => true
  | .srai _ _ _ => true
  | .srli _ _ _ => true
  | .xori _ _ _ => true
  | .auipc _ _ => true
  | .lui _ _ => true
  | .beq _ _ offset => isEven offset
  | .bge _ _ offset => isEven offset
  | .bgeu _ _ offset => isEven offset
  | .blt _ _ offset => isEven offset
  | .bltu _ _ offset => isEven offset
  | .bne _ _ offset => isEven offset
  | .jal _ offset => isEven offset
  | .jalr _ _ _ => true
  | .lb _ _ _ => true
  | .lbu _ _ _ => true
  | .lh _ _ _ => true
  | .lhu _ _ _ => true
  | .lw _ _ _ => true
  | .sb _ _ _ => true
  | .sh _ _ _ => true
  | .sw _ _ _ => true
  | .div _ _ _ => true
  | .divu _ _ _ => true
  | .mul _ _ _ => true
  | .mulh _ _ _ => true
  | .mulhsu _ _ _ => true
  | .mulhu _ _ _ => true
  | .rem _ _ _ => true
  | .remu _ _ _ => true
  | .amoaddW _ _ _ _ _ => true
  | .amoandW _ _ _ _ _ => true
  | .amomaxW _ _ _ _ _ => true
  | .amomaxuW _ _ _ _ _ => true
  | .amominW _ _ _ _ _ => true
  | .amominuW _ _ _ _ _ => true
  | .amoorW _ _ _ _ _ => true
  | .amoswapW _ _ _ _ _ => true
  | .amoxorW _ _ _ _ _ => true
  | .lrW _ _ _ _ => true
  | .scW _ _ _ _ _ => true
  | .sh1add _ _ _ => true
  | .sh2add _ _ _ => true
  | .sh3add _ _ _ => true
  | .andn _ _ _ => true
  | .clz _ _ => true
  | .cpop _ _ => true
  | .ctz _ _ => true
  | .max _ _ _ => true
  | .maxu _ _ _ => true
  | .min _ _ _ => true
  | .minu _ _ _ => true
  | .orcB _ _ => true
  | .orn _ _ _ => true
  | .rev8 _ _ => true
  | .rol _ _ _ => true
  | .ror _ _ _ => true
  | .rori _ _ _ => true
  | .sextB _ _ => true
  | .sextH _ _ => true
  | .xnor _ _ _ => true
  | .zextH _ _ => true
  | .bclr _ _ _ => true
  | .bclri _ _ _ => true
  | .bext _ _ _ => true
  | .bexti _ _ _ => true
  | .binv _ _ _ => true
  | .binvi _ _ _ => true
  | .bset _ _ _ => true
  | .bseti _ _ _ => true
  | .brev8 _ _ => true
  | .pack _ _ rs2 => rs2 != 0
  | .packh _ _ _ => true
  | .unzip _ _ => true
  | .zip _ _ => true
  | .fence fm pred succ rs1 rd => !isFenceTso fm pred succ rs1 rd
  | .fenceTso => true
  | .fenceI _ _ _ => true
  | .csrrc _ _ _ => true
  | .csrrci _ _ _ => true
  | .csrrs _ _ _ => true
  | .csrrsi _ _ _ => true
  | .csrrw _ _ _ => true
  | .csrrwi _ _ _ => true
  | .ebreak => true
  | .ecall => true
  | .mret => true
  | .wfi => true
  | .cAddi4spn _ uimm => isMultipleOf4 uimm && uimm != 0
  | .cLw _ _ uimm => isMultipleOf4 uimm
  | .cSw _ _ uimm => isMultipleOf4 uimm
  | .cNop _ => true
  | .cAddi rd _ => rd != 0
  | .cJal offset => isEven offset
  | .cLi _ _ => true
  | .cAddi16sp imm => isMultipleOf16 imm && imm != 0
  | .cLui rd imm => rd != 2 && imm != 0
  | .cSrli _ _ => true
  | .cSrai _ _ => true
  | .cAndi _ _ => true
  | .cSub _ _ => true
  | .cXor _ _ => true
  | .cOr _ _ => true
  | .cAnd _ _ => true
  | .cJ offset => isEven offset
  | .cBeqz _ offset => isEven offset
  | .cBnez _ offset => isEven offset
  | .cSlli _ _ => true
  | .cLwsp rd uimm => rd != 0 && isMultipleOf4 uimm
  | .cJr rs1 => rs1 != 0
  | .cMv _ rs2 => rs2 != 0
  | .cEbreak => true
  | .cJalr rs1 => rs1 != 0
  | .cAdd _ rs2 => rs2 != 0
  | .cSwsp _ uimm => isMultipleOf4 uimm
  | .cLbu _ _ _ => true
  | .cLhu _ _ uimm => isEven uimm
  | .cLh _ _ uimm => isEven uimm
  | .cSb _ _ _ => true
  | .cSh _ _ uimm => isEven uimm
  | .cZextB _ => true
  | .cSextB _ => true
  | .cZextH _ => true
  | .cSextH _ => true
  | .cNot _ => true
  | .cMul _ _ => true
  | .cmPush rlist _ => isRegisterList rlist
  | .cmPop rlist _ => isRegisterList rlist
  | .cmPopretz rlist _ => isRegisterList rlist
  | .cmPopret rlist _ => isRegisterList rlist
  | .cmMvsa01 r1s r2s => r1s != r2s
  | .cmMva01s _ _ => true

end Sys2Proof
end

