-- ==== Sys2Proof/Decode.lean ====
section
/-!
DEFINITION. Decoding and encoding (spec/30_encoding.md). `decode` is total and rejects by name; `encode` writes the words
of an instruction from the same encoding tables. The encodings are the spec's own, which it marks as general knowledge
(30 R120; log 38).
-/

namespace Sys2Proof

/-- Why a code stands for no instruction. Every one of these is an illegal instruction to the machine, cause 2
(30 R131, R132; log 28). -/
inductive Reject where
  /-- The 16-bit word 0x0000, the defined illegal instruction (30 R130, R132). -/
  | allZero
  /-- Bits 1:0 do not fit the length of the code (30 R121). -/
  | wrongLength
  /-- No instruction has this major opcode (30 R128). -/
  | majorOpcode
  /-- The function bits under a major opcode or in a quadrant select nothing (30 R129, R130; 48 R391). -/
  | function
  /-- An operand value that the spec calls reserved (30 R132). -/
  | reservedOperand
  deriving DecidableEq, Repr

/-! ### Fields of the 32-bit formats (30 R122, R123) -/

/-- Bits 6:0. -/
def opcode (w : Word) : BitVec 7 := w.extractLsb' 0 7
/-- Bits 11:7. -/
def rdField (w : Word) : RegIdx := w.extractLsb' 7 5
/-- Bits 14:12. -/
def funct3 (w : Word) : BitVec 3 := w.extractLsb' 12 3
/-- Bits 19:15. -/
def rs1Field (w : Word) : RegIdx := w.extractLsb' 15 5
/-- Bits 24:20. -/
def rs2Field (w : Word) : RegIdx := w.extractLsb' 20 5
/-- Bits 31:25. -/
def funct7 (w : Word) : BitVec 7 := w.extractLsb' 25 7

/-- The 32-bit word with the given fields, the most significant first (30 R122, the R format). Every other 32-bit format
is a reading of these six fields. -/
def mkWord (f7 : BitVec 7) (rs2 rs1 : RegIdx) (f3 : BitVec 3) (rd : RegIdx) (op : BitVec 7) : Word :=
  f7 ++ rs2 ++ rs1 ++ f3 ++ rd ++ op

/-- The I immediate: bits 31:20 (30 R126). -/
def immI (w : Word) : BitVec 12 := funct7 w ++ rs2Field w
/-- The S immediate: bits 31:25, then bits 11:7 (30 R126). -/
def immS (w : Word) : BitVec 12 := funct7 w ++ rdField w
/-- The B offset: bit 31, bit 7, bits 30:25, bits 11:8, and a zero (30 R126). -/
def offsetB (w : Word) : BitVec 13 :=
  (funct7 w).extractLsb' 6 1 ++ (rdField w).extractLsb' 0 1 ++ (funct7 w).extractLsb' 0 6 ++
    (rdField w).extractLsb' 1 4 ++ 0#1
/-- The U immediate: bits 31:12 (30 R126). -/
def immU (w : Word) : BitVec 20 := funct7 w ++ rs2Field w ++ rs1Field w ++ funct3 w
/-- The J offset: bit 31, bits 19:12, bit 20, bits 30:21, and a zero (30 R126). -/
def offsetJ (w : Word) : BitVec 21 :=
  (funct7 w).extractLsb' 6 1 ++ rs1Field w ++ funct3 w ++ (rs2Field w).extractLsb' 0 1 ++
    (funct7 w).extractLsb' 0 6 ++ (rs2Field w).extractLsb' 1 4 ++ 0#1
/-- The funct5 of the atomics: bits 31:27 (30 R123). -/
def funct5 (w : Word) : BitVec 5 := (funct7 w).extractLsb' 2 5
/-- The aq bit of the atomics: bit 26 (30 R123). -/
def aqBit (w : Word) : Bool := (funct7 w).getLsbD 1
/-- The rl bit of the atomics: bit 25 (30 R123). -/
def rlBit (w : Word) : Bool := (funct7 w).getLsbD 0
/-- fm of `fence`: bits 31:28 (30 R123). -/
def fmField (w : Word) : BitVec 4 := (immI w).extractLsb' 8 4
/-- pred of `fence`: bits 27:24 (30 R123). -/
def predField (w : Word) : BitVec 4 := (immI w).extractLsb' 4 4
/-- succ of `fence`: bits 23:20 (30 R123). -/
def succField (w : Word) : BitVec 4 := (immI w).extractLsb' 0 4

/-! ### Decoding of 32-bit words, by major opcode (30 R128, R129) -/

/-- LOAD (30 R129). -/
def decodeLoad (w : Word) : Except Reject Instr :=
  if funct3 w = 0b000 then .ok (.lb (rdField w) (rs1Field w) (immI w))
  else if funct3 w = 0b001 then .ok (.lh (rdField w) (rs1Field w) (immI w))
  else if funct3 w = 0b010 then .ok (.lw (rdField w) (rs1Field w) (immI w))
  else if funct3 w = 0b100 then .ok (.lbu (rdField w) (rs1Field w) (immI w))
  else if funct3 w = 0b101 then .ok (.lhu (rdField w) (rs1Field w) (immI w))
  else .error .function

/-- STORE (30 R129). -/
def decodeStore (w : Word) : Except Reject Instr :=
  if funct3 w = 0b000 then .ok (.sb (rs1Field w) (rs2Field w) (immS w))
  else if funct3 w = 0b001 then .ok (.sh (rs1Field w) (rs2Field w) (immS w))
  else if funct3 w = 0b010 then .ok (.sw (rs1Field w) (rs2Field w) (immS w))
  else .error .function

/-- BRANCH (30 R129). -/
def decodeBranch (w : Word) : Except Reject Instr :=
  if funct3 w = 0b000 then .ok (.beq (rs1Field w) (rs2Field w) (offsetB w))
  else if funct3 w = 0b001 then .ok (.bne (rs1Field w) (rs2Field w) (offsetB w))
  else if funct3 w = 0b100 then .ok (.blt (rs1Field w) (rs2Field w) (offsetB w))
  else if funct3 w = 0b101 then .ok (.bge (rs1Field w) (rs2Field w) (offsetB w))
  else if funct3 w = 0b110 then .ok (.bltu (rs1Field w) (rs2Field w) (offsetB w))
  else if funct3 w = 0b111 then .ok (.bgeu (rs1Field w) (rs2Field w) (offsetB w))
  else .error .function

/-- JALR (30 R129). -/
def decodeJalr (w : Word) : Except Reject Instr :=
  if funct3 w = 0b000 then .ok (.jalr (rdField w) (rs1Field w) (immI w)) else .error .function

/-- OP-IMM with funct3 = 001, by bits 31:25 and bits 24:20 (30 R129). A word with bit 25 set matches no row (30 R132). -/
def decodeOpImm1 (w : Word) : Except Reject Instr :=
  if funct7 w = 0b0000000 then .ok (.slli (rdField w) (rs1Field w) (rs2Field w))
  else if funct7 w = 0b0010100 then .ok (.bseti (rdField w) (rs1Field w) (rs2Field w))
  else if funct7 w = 0b0100100 then .ok (.bclri (rdField w) (rs1Field w) (rs2Field w))
  else if funct7 w = 0b0110100 then .ok (.binvi (rdField w) (rs1Field w) (rs2Field w))
  else if funct7 w = 0b0110000 then
    if rs2Field w = 0b00000 then .ok (.clz (rdField w) (rs1Field w))
    else if rs2Field w = 0b00001 then .ok (.ctz (rdField w) (rs1Field w))
    else if rs2Field w = 0b00010 then .ok (.cpop (rdField w) (rs1Field w))
    else if rs2Field w = 0b00100 then .ok (.sextB (rdField w) (rs1Field w))
    else if rs2Field w = 0b00101 then .ok (.sextH (rdField w) (rs1Field w))
    else .error .function
  else if funct7 w = 0b0000100 then
    if rs2Field w = 0b01111 then .ok (.zip (rdField w) (rs1Field w)) else .error .function
  else .error .function

/-- OP-IMM with funct3 = 101, by bits 31:25 and bits 24:20 (30 R129). -/
def decodeOpImm5 (w : Word) : Except Reject Instr :=
  if funct7 w = 0b0000000 then .ok (.srli (rdField w) (rs1Field w) (rs2Field w))
  else if funct7 w = 0b0100000 then .ok (.srai (rdField w) (rs1Field w) (rs2Field w))
  else if funct7 w = 0b0110000 then .ok (.rori (rdField w) (rs1Field w) (rs2Field w))
  else if funct7 w = 0b0100100 then .ok (.bexti (rdField w) (rs1Field w) (rs2Field w))
  else if funct7 w = 0b0010100 then
    if rs2Field w = 0b00111 then .ok (.orcB (rdField w) (rs1Field w)) else .error .function
  else if funct7 w = 0b0110100 then
    if rs2Field w = 0b11000 then .ok (.rev8 (rdField w) (rs1Field w))
    else if rs2Field w = 0b00111 then .ok (.brev8 (rdField w) (rs1Field w))
    else .error .function
  else if funct7 w = 0b0000100 then
    if rs2Field w = 0b01111 then .ok (.unzip (rdField w) (rs1Field w)) else .error .function
  else .error .function

/-- OP-IMM (30 R129). -/
def decodeOpImm (w : Word) : Except Reject Instr :=
  if funct3 w = 0b000 then .ok (.addi (rdField w) (rs1Field w) (immI w))
  else if funct3 w = 0b010 then .ok (.slti (rdField w) (rs1Field w) (immI w))
  else if funct3 w = 0b011 then .ok (.sltiu (rdField w) (rs1Field w) (immI w))
  else if funct3 w = 0b100 then .ok (.xori (rdField w) (rs1Field w) (immI w))
  else if funct3 w = 0b110 then .ok (.ori (rdField w) (rs1Field w) (immI w))
  else if funct3 w = 0b111 then .ok (.andi (rdField w) (rs1Field w) (immI w))
  else if funct3 w = 0b001 then decodeOpImm1 w
  else decodeOpImm5 w

/-- OP with funct7 = 0000000: RV32I (30 R129). -/
def decodeOpBase (w : Word) : Except Reject Instr :=
  if funct3 w = 0b000 then .ok (.add (rdField w) (rs1Field w) (rs2Field w))
  else if funct3 w = 0b001 then .ok (.sll (rdField w) (rs1Field w) (rs2Field w))
  else if funct3 w = 0b010 then .ok (.slt (rdField w) (rs1Field w) (rs2Field w))
  else if funct3 w = 0b011 then .ok (.sltu (rdField w) (rs1Field w) (rs2Field w))
  else if funct3 w = 0b100 then .ok (.xor (rdField w) (rs1Field w) (rs2Field w))
  else if funct3 w = 0b101 then .ok (.srl (rdField w) (rs1Field w) (rs2Field w))
  else if funct3 w = 0b110 then .ok (.or (rdField w) (rs1Field w) (rs2Field w))
  else if funct3 w = 0b111 then .ok (.and (rdField w) (rs1Field w) (rs2Field w))
  else .error .function

/-- OP with funct7 = 0100000: RV32I and Zbb (30 R129). -/
def decodeOpAlt (w : Word) : Except Reject Instr :=
  if funct3 w = 0b000 then .ok (.sub (rdField w) (rs1Field w) (rs2Field w))
  else if funct3 w = 0b100 then .ok (.xnor (rdField w) (rs1Field w) (rs2Field w))
  else if funct3 w = 0b101 then .ok (.sra (rdField w) (rs1Field w) (rs2Field w))
  else if funct3 w = 0b110 then .ok (.orn (rdField w) (rs1Field w) (rs2Field w))
  else if funct3 w = 0b111 then .ok (.andn (rdField w) (rs1Field w) (rs2Field w))
  else .error .function

/-- OP with funct7 = 0000001: M (30 R129). -/
def decodeOpMul (w : Word) : Except Reject Instr :=
  if funct3 w = 0b000 then .ok (.mul (rdField w) (rs1Field w) (rs2Field w))
  else if funct3 w = 0b001 then .ok (.mulh (rdField w) (rs1Field w) (rs2Field w))
  else if funct3 w = 0b010 then .ok (.mulhsu (rdField w) (rs1Field w) (rs2Field w))
  else if funct3 w = 0b011 then .ok (.mulhu (rdField w) (rs1Field w) (rs2Field w))
  else if funct3 w = 0b100 then .ok (.div (rdField w) (rs1Field w) (rs2Field w))
  else if funct3 w = 0b101 then .ok (.divu (rdField w) (rs1Field w) (rs2Field w))
  else if funct3 w = 0b110 then .ok (.rem (rdField w) (rs1Field w) (rs2Field w))
  else if funct3 w = 0b111 then .ok (.remu (rdField w) (rs1Field w) (rs2Field w))
  else .error .function

/-- OP with funct7 = 0010000: Zba (30 R129). -/
def decodeOpShAdd (w : Word) : Except Reject Instr :=
  if funct3 w = 0b010 then .ok (.sh1add (rdField w) (rs1Field w) (rs2Field w))
  else if funct3 w = 0b100 then .ok (.sh2add (rdField w) (rs1Field w) (rs2Field w))
  else if funct3 w = 0b110 then .ok (.sh3add (rdField w) (rs1Field w) (rs2Field w))
  else .error .function

/-- OP with funct7 = 0000101: Zbb minima and maxima (30 R129). -/
def decodeOpMinMax (w : Word) : Except Reject Instr :=
  if funct3 w = 0b100 then .ok (.min (rdField w) (rs1Field w) (rs2Field w))
  else if funct3 w = 0b101 then .ok (.minu (rdField w) (rs1Field w) (rs2Field w))
  else if funct3 w = 0b110 then .ok (.max (rdField w) (rs1Field w) (rs2Field w))
  else if funct3 w = 0b111 then .ok (.maxu (rdField w) (rs1Field w) (rs2Field w))
  else .error .function

/-- OP with funct7 = 0110000: Zbb rotations (30 R129). -/
def decodeOpRotate (w : Word) : Except Reject Instr :=
  if funct3 w = 0b001 then .ok (.rol (rdField w) (rs1Field w) (rs2Field w))
  else if funct3 w = 0b101 then .ok (.ror (rdField w) (rs1Field w) (rs2Field w))
  else .error .function

/-- OP with funct7 = 0100100: Zbs (30 R129). -/
def decodeOpBclr (w : Word) : Except Reject Instr :=
  if funct3 w = 0b001 then .ok (.bclr (rdField w) (rs1Field w) (rs2Field w))
  else if funct3 w = 0b101 then .ok (.bext (rdField w) (rs1Field w) (rs2Field w))
  else .error .function

/-- OP with funct7 = 0110100: Zbs (30 R129). -/
def decodeOpBinv (w : Word) : Except Reject Instr :=
  if funct3 w = 0b001 then .ok (.binv (rdField w) (rs1Field w) (rs2Field w))
  else .error .function

/-- OP with funct7 = 0010100: Zbs (30 R129). -/
def decodeOpBset (w : Word) : Except Reject Instr :=
  if funct3 w = 0b001 then .ok (.bset (rdField w) (rs1Field w) (rs2Field w))
  else .error .function

/-- OP with funct7 = 0000100: Zbkb, and zext.h where rs2 is 0 (30 R129). -/
def decodeOpPack (w : Word) : Except Reject Instr :=
  if funct3 w = 0b100 then (if rs2Field w = 0 then .ok (.zextH (rdField w) (rs1Field w))
    else .ok (.pack (rdField w) (rs1Field w) (rs2Field w)))
  else if funct3 w = 0b111 then .ok (.packh (rdField w) (rs1Field w) (rs2Field w))
  else .error .function

/-- OP (30 R129). -/
def decodeOp (w : Word) : Except Reject Instr :=
  if funct7 w = 0b0000000 then decodeOpBase w
  else if funct7 w = 0b0100000 then decodeOpAlt w
  else if funct7 w = 0b0000001 then decodeOpMul w
  else if funct7 w = 0b0010000 then decodeOpShAdd w
  else if funct7 w = 0b0000101 then decodeOpMinMax w
  else if funct7 w = 0b0110000 then decodeOpRotate w
  else if funct7 w = 0b0100100 then decodeOpBclr w
  else if funct7 w = 0b0110100 then decodeOpBinv w
  else if funct7 w = 0b0010100 then decodeOpBset w
  else if funct7 w = 0b0000100 then decodeOpPack w
  else .error .function

/-- AMO, by funct5 (30 R129). lr.w with a nonzero rs2 field is reserved (30 R132). -/
def decodeAmo (w : Word) : Except Reject Instr :=
  if funct3 w ≠ 0b010 then .error .function
  else if funct5 w = 0b00010 then
    if rs2Field w = 0 then .ok (.lrW (rdField w) (rs1Field w) (aqBit w) (rlBit w)) else .error .reservedOperand
  else if funct5 w = 0b00000 then .ok (.amoaddW (rdField w) (rs1Field w) (rs2Field w) (aqBit w) (rlBit w))
  else if funct5 w = 0b01100 then .ok (.amoandW (rdField w) (rs1Field w) (rs2Field w) (aqBit w) (rlBit w))
  else if funct5 w = 0b10100 then .ok (.amomaxW (rdField w) (rs1Field w) (rs2Field w) (aqBit w) (rlBit w))
  else if funct5 w = 0b11100 then .ok (.amomaxuW (rdField w) (rs1Field w) (rs2Field w) (aqBit w) (rlBit w))
  else if funct5 w = 0b10000 then .ok (.amominW (rdField w) (rs1Field w) (rs2Field w) (aqBit w) (rlBit w))
  else if funct5 w = 0b11000 then .ok (.amominuW (rdField w) (rs1Field w) (rs2Field w) (aqBit w) (rlBit w))
  else if funct5 w = 0b01000 then .ok (.amoorW (rdField w) (rs1Field w) (rs2Field w) (aqBit w) (rlBit w))
  else if funct5 w = 0b00001 then .ok (.amoswapW (rdField w) (rs1Field w) (rs2Field w) (aqBit w) (rlBit w))
  else if funct5 w = 0b00100 then .ok (.amoxorW (rdField w) (rs1Field w) (rs2Field w) (aqBit w) (rlBit w))
  else if funct5 w = 0b00011 then .ok (.scW (rdField w) (rs1Field w) (rs2Field w) (aqBit w) (rlBit w))
  else .error .function

/-- MISC-MEM (30 R129): the word 0x8330000f is fence.tso, and the other fields of `fence` and `fence.i` are ignored by the
machine, not by the decoder (30 R134, R135). -/
def decodeMiscMem (w : Word) : Except Reject Instr :=
  if funct3 w = 0b000 then
    if w = 0x8330000f then .ok .fenceTso
    else .ok (.fence (fmField w) (predField w) (succField w) (rs1Field w) (rdField w))
  else if funct3 w = 0b001 then .ok (.fenceI (immI w) (rs1Field w) (rdField w))
  else .error .function

/-- SYSTEM (30 R129; 49 R412). -/
def decodeSystem (w : Word) : Except Reject Instr :=
  if funct3 w = 0b001 then .ok (.csrrw (rdField w) (immI w) (rs1Field w))
  else if funct3 w = 0b010 then .ok (.csrrs (rdField w) (immI w) (rs1Field w))
  else if funct3 w = 0b011 then .ok (.csrrc (rdField w) (immI w) (rs1Field w))
  else if funct3 w = 0b101 then .ok (.csrrwi (rdField w) (immI w) (rs1Field w))
  else if funct3 w = 0b110 then .ok (.csrrsi (rdField w) (immI w) (rs1Field w))
  else if funct3 w = 0b111 then .ok (.csrrci (rdField w) (immI w) (rs1Field w))
  else if w = 0x00000073 then .ok .ecall
  else if w = 0x00100073 then .ok .ebreak
  else if w = 0x30200073 then .ok .mret
  else if w = 0x10500073 then .ok .wfi
  else .error .function

/-- The instruction of a 32-bit word, by major opcode (30 R128). -/
def decode32 (w : Word) : Except Reject Instr :=
  if opcode w = 0b0000011 then decodeLoad w
  else if opcode w = 0b0001111 then decodeMiscMem w
  else if opcode w = 0b0010011 then decodeOpImm w
  else if opcode w = 0b0010111 then .ok (.auipc (rdField w) (immU w))
  else if opcode w = 0b0100011 then decodeStore w
  else if opcode w = 0b0101111 then decodeAmo w
  else if opcode w = 0b0110011 then decodeOp w
  else if opcode w = 0b0110111 then .ok (.lui (rdField w) (immU w))
  else if opcode w = 0b1100011 then decodeBranch w
  else if opcode w = 0b1100111 then decodeJalr w
  else if opcode w = 0b1101111 then .ok (.jal (rdField w) (offsetJ w))
  else if opcode w = 0b1110011 then decodeSystem w
  else .error .majorOpcode

/-! ### Fields of the 16-bit formats (30 R124) -/

/-- Bits 1:0, the quadrant. -/
def quadrant (h : Half) : BitVec 2 := h.extractLsb' 0 2
/-- Bits 15:13. -/
def cFunct3 (h : Half) : BitVec 3 := h.extractLsb' 13 3
/-- Bit 12. -/
def cBit12 (h : Half) : BitVec 1 := h.extractLsb' 12 1
/-- Bits 11:10. -/
def cFunct2 (h : Half) : BitVec 2 := h.extractLsb' 10 2
/-- Bits 9:7, a three-bit register field. -/
def cReg97 (h : Half) : CReg := h.extractLsb' 7 3
/-- Bits 6:5. -/
def cBits65 (h : Half) : BitVec 2 := h.extractLsb' 5 2
/-- Bits 4:2, a three-bit register field. -/
def cReg42 (h : Half) : CReg := h.extractLsb' 2 3

/-- The 16-bit word with the given fields, the most significant first. -/
def mkHalf (f3 : BitVec 3) (b12 : BitVec 1) (f2 : BitVec 2) (r97 : BitVec 3) (b65 : BitVec 2) (r42 : BitVec 3)
    (q : BitVec 2) : Half :=
  f3 ++ b12 ++ f2 ++ r97 ++ b65 ++ r42 ++ q

/-- Bits 11:7, a five-bit register field. -/
def cRd (h : Half) : RegIdx := cFunct2 h ++ cReg97 h
/-- Bits 6:2, a five-bit register field or five bits of an immediate. -/
def cLow5 (h : Half) : RegIdx := cBits65 h ++ cReg42 h
/-- Bit 12 and bits 6:2, the six bits of a CI immediate (30 R127). -/
def cImm6 (h : Half) : BitVec 6 := cBit12 h ++ cLow5 h
/-- The offset of c.lw and c.sw: inst[5], inst[12:10], inst[6], 00 (30 R127). -/
def cUimmWord (h : Half) : BitVec 7 :=
  (cBits65 h).extractLsb' 0 1 ++ cBit12 h ++ cFunct2 h ++ (cBits65 h).extractLsb' 1 1 ++ 0#2
/-- The immediate of c.addi4spn: inst[10:7], inst[12:11], inst[5], inst[6], 00 (30 R127). -/
def cUimmAddi4spn (h : Half) : BitVec 10 :=
  (cFunct2 h).extractLsb' 0 1 ++ cReg97 h ++ cBit12 h ++ (cFunct2 h).extractLsb' 1 1 ++
    (cBits65 h).extractLsb' 0 1 ++ (cBits65 h).extractLsb' 1 1 ++ 0#2
/-- The immediate of c.addi16sp: inst[12], inst[4:3], inst[5], inst[2], inst[6], 0000 (30 R127). -/
def cImmAddi16sp (h : Half) : BitVec 10 :=
  cBit12 h ++ (cReg42 h).extractLsb' 1 2 ++ (cBits65 h).extractLsb' 0 1 ++ (cReg42 h).extractLsb' 0 1 ++
    (cBits65 h).extractLsb' 1 1 ++ 0#4
/-- The offset of c.j and c.jal: inst[12], inst[8], inst[10:9], inst[6], inst[7], inst[2], inst[11], inst[5:3], 0
(30 R127). -/
def cOffsetJ (h : Half) : BitVec 12 :=
  cBit12 h ++ (cReg97 h).extractLsb' 1 1 ++ (cFunct2 h).extractLsb' 0 1 ++ (cReg97 h).extractLsb' 2 1 ++
    (cBits65 h).extractLsb' 1 1 ++ (cReg97 h).extractLsb' 0 1 ++ (cReg42 h).extractLsb' 0 1 ++
    (cFunct2 h).extractLsb' 1 1 ++ (cBits65 h).extractLsb' 0 1 ++ (cReg42 h).extractLsb' 1 2 ++ 0#1
/-- The offset of c.beqz and c.bnez: inst[12], inst[6:5], inst[2], inst[11:10], inst[4:3], 0 (30 R127). -/
def cOffsetB (h : Half) : BitVec 9 :=
  cBit12 h ++ cBits65 h ++ (cReg42 h).extractLsb' 0 1 ++ cFunct2 h ++ (cReg42 h).extractLsb' 1 2 ++ 0#1
/-- The offset of c.lwsp: inst[3:2], inst[12], inst[6:4], 00 (30 R127). -/
def cUimmLwsp (h : Half) : BitVec 8 :=
  (cReg42 h).extractLsb' 0 2 ++ cBit12 h ++ cBits65 h ++ (cReg42 h).extractLsb' 2 1 ++ 0#2
/-- The offset of c.swsp: inst[8:7], inst[12:9], 00 (30 R127). -/
def cUimmSwsp (h : Half) : BitVec 8 :=
  (cReg97 h).extractLsb' 0 2 ++ cBit12 h ++ cFunct2 h ++ (cReg97 h).extractLsb' 2 1 ++ 0#2
/-- The offset of c.lbu and c.sb: inst[5], inst[6] (30 R127). -/
def cUimmByte (h : Half) : BitVec 2 := (cBits65 h).extractLsb' 0 1 ++ (cBits65 h).extractLsb' 1 1
/-- The offset of c.lhu, c.lh and c.sh: inst[5], 0 (30 R127). -/
def cUimmHalf (h : Half) : BitVec 2 := (cBits65 h).extractLsb' 0 1 ++ 0#1
/-- The register list of Zcmp: bits 7:4 (30 R136). -/
def cRlist (h : Half) : BitVec 4 := (cReg97 h).extractLsb' 0 1 ++ cBits65 h ++ (cReg42 h).extractLsb' 2 1
/-- spimm of Zcmp: bits 3:2 (30 R136). -/
def cSpimm (h : Half) : BitVec 2 := (cReg42 h).extractLsb' 0 2

/-! ### Decoding of 16-bit words, by quadrant (30 R130) -/

/-- Quadrant 0, bits 15:13 = 100: the loads and stores of Zcb (30 R130). -/
def decodeZcbMem (h : Half) : Except Reject Instr :=
  if cBit12 h = 1 then .error .function
  else if cFunct2 h = 0b00 then .ok (.cLbu (cReg42 h) (cReg97 h) (cUimmByte h))
  else if cFunct2 h = 0b01 then
    if (cBits65 h).extractLsb' 1 1 = 0#1 then .ok (.cLhu (cReg42 h) (cReg97 h) (cUimmHalf h))
    else .ok (.cLh (cReg42 h) (cReg97 h) (cUimmHalf h))
  else if cFunct2 h = 0b10 then .ok (.cSb (cReg97 h) (cReg42 h) (cUimmByte h))
  else if (cBits65 h).extractLsb' 1 1 = 0#1 then .ok (.cSh (cReg97 h) (cReg42 h) (cUimmHalf h))
  else .error .reservedOperand

/-- Quadrant 0 (30 R130). -/
def decodeQuadrant0 (h : Half) : Except Reject Instr :=
  if h = 0 then .error .allZero
  else if cFunct3 h = 0b000 then
    if cUimmAddi4spn h = 0 then .error .reservedOperand else .ok (.cAddi4spn (cReg42 h) (cUimmAddi4spn h))
  else if cFunct3 h = 0b010 then .ok (.cLw (cReg42 h) (cReg97 h) (cUimmWord h))
  else if cFunct3 h = 0b100 then decodeZcbMem h
  else if cFunct3 h = 0b110 then .ok (.cSw (cReg97 h) (cReg42 h) (cUimmWord h))
  else .error .function

/-- Quadrant 1, bits 15:10 = 100111 and bits 6:5 = 11: the unary forms of Zcb (30 R130). -/
def decodeZcbUnary (h : Half) : Except Reject Instr :=
  if cReg42 h = 0b000 then .ok (.cZextB (cReg97 h))
  else if cReg42 h = 0b001 then .ok (.cSextB (cReg97 h))
  else if cReg42 h = 0b010 then .ok (.cZextH (cReg97 h))
  else if cReg42 h = 0b011 then .ok (.cSextH (cReg97 h))
  else if cReg42 h = 0b101 then .ok (.cNot (cReg97 h))
  else .error .function

/-- Quadrant 1, bits 15:13 = 100, by bits 11:10 (30 R130). -/
def decodeQuadrant1Alu (h : Half) : Except Reject Instr :=
  if cFunct2 h = 0b00 then
    if cBit12 h = 0 then .ok (.cSrli (cReg97 h) (cLow5 h)) else .error .reservedOperand
  else if cFunct2 h = 0b01 then
    if cBit12 h = 0 then .ok (.cSrai (cReg97 h) (cLow5 h)) else .error .reservedOperand
  else if cFunct2 h = 0b10 then .ok (.cAndi (cReg97 h) (cImm6 h))
  else if cBit12 h = 0 then
    if cBits65 h = 0b00 then .ok (.cSub (cReg97 h) (cReg42 h))
    else if cBits65 h = 0b01 then .ok (.cXor (cReg97 h) (cReg42 h))
    else if cBits65 h = 0b10 then .ok (.cOr (cReg97 h) (cReg42 h))
    else .ok (.cAnd (cReg97 h) (cReg42 h))
  else if cBits65 h = 0b10 then .ok (.cMul (cReg97 h) (cReg42 h))
  else if cBits65 h = 0b11 then decodeZcbUnary h
  else .error .function

/-- Quadrant 1 (30 R130). -/
def decodeQuadrant1 (h : Half) : Except Reject Instr :=
  if cFunct3 h = 0b000 then
    if cRd h = 0 then .ok (.cNop (cImm6 h)) else .ok (.cAddi (cRd h) (cImm6 h))
  else if cFunct3 h = 0b001 then .ok (.cJal (cOffsetJ h))
  else if cFunct3 h = 0b010 then .ok (.cLi (cRd h) (cImm6 h))
  else if cFunct3 h = 0b011 then
    if cImm6 h = 0 then .error .reservedOperand
    else if cRd h = 2 then .ok (.cAddi16sp (cImmAddi16sp h))
    else .ok (.cLui (cRd h) (cImm6 h))
  else if cFunct3 h = 0b100 then decodeQuadrant1Alu h
  else if cFunct3 h = 0b101 then .ok (.cJ (cOffsetJ h))
  else if cFunct3 h = 0b110 then .ok (.cBeqz (cReg97 h) (cOffsetB h))
  else .ok (.cBnez (cReg97 h) (cOffsetB h))

/-- Quadrant 2, bits 15:13 = 100: jumps, moves, c.add and c.ebreak (30 R130). -/
def decodeQuadrant2Cr (h : Half) : Except Reject Instr :=
  if cBit12 h = 0 then
    if cLow5 h = 0 then
      if cRd h = 0 then .error .reservedOperand else .ok (.cJr (cRd h))
    else .ok (.cMv (cRd h) (cLow5 h))
  else if cLow5 h = 0 then
    if cRd h = 0 then .ok .cEbreak else .ok (.cJalr (cRd h))
  else .ok (.cAdd (cRd h) (cLow5 h))

/-- Quadrant 2, bits 15:13 = 101: Zcmp, by bits 12:10 (30 R130; 48 R391). Bits 9:8 are the two high bits of bits 9:7. -/
def decodeZcmp (h : Half) : Except Reject Instr :=
  if cBit12 h = 0 then
    if cFunct2 h = 0b11 then
      if cBits65 h = 0b01 then
        if cReg97 h = cReg42 h then .error .reservedOperand else .ok (.cmMvsa01 (cReg97 h) (cReg42 h))
      else if cBits65 h = 0b11 then .ok (.cmMva01s (cReg97 h) (cReg42 h))
      else .error .function
    else .error .function
  else if cFunct2 h = 0b10 then
    if (cReg97 h).extractLsb' 1 2 = 0b00#2 then
      if isRegisterList (cRlist h) then .ok (.cmPush (cRlist h) (cSpimm h)) else .error .reservedOperand
    else if (cReg97 h).extractLsb' 1 2 = 0b10#2 then
      if isRegisterList (cRlist h) then .ok (.cmPop (cRlist h) (cSpimm h)) else .error .reservedOperand
    else .error .function
  else if cFunct2 h = 0b11 then
    if (cReg97 h).extractLsb' 1 2 = 0b00#2 then
      if isRegisterList (cRlist h) then .ok (.cmPopretz (cRlist h) (cSpimm h)) else .error .reservedOperand
    else if (cReg97 h).extractLsb' 1 2 = 0b10#2 then
      if isRegisterList (cRlist h) then .ok (.cmPopret (cRlist h) (cSpimm h)) else .error .reservedOperand
    else .error .function
  else .error .function

/-- Quadrant 2 (30 R130). -/
def decodeQuadrant2 (h : Half) : Except Reject Instr :=
  if cFunct3 h = 0b000 then
    if cBit12 h = 0 then .ok (.cSlli (cRd h) (cLow5 h)) else .error .reservedOperand
  else if cFunct3 h = 0b010 then
    if cRd h = 0 then .error .reservedOperand else .ok (.cLwsp (cRd h) (cUimmLwsp h))
  else if cFunct3 h = 0b100 then decodeQuadrant2Cr h
  else if cFunct3 h = 0b101 then decodeZcmp h
  else if cFunct3 h = 0b110 then .ok (.cSwsp (cLow5 h) (cUimmSwsp h))
  else .error .function

/-- The instruction of a 16-bit word (30 R130). -/
def decode16 (h : Half) : Except Reject Instr :=
  if quadrant h = 0b00 then decodeQuadrant0 h
  else if quadrant h = 0b01 then decodeQuadrant1 h
  else if quadrant h = 0b10 then decodeQuadrant2 h
  else .error .wrongLength

/-! ### Decoding of a code -/

/-- Bits 1:0 of the first parcel say that the instruction has 32 bits (30 R121). -/
def isLong (parcel : Half) : Bool := quadrant parcel == 0b11

/-- The instruction that a code stands for, or why it stands for none. -/
def decode : Code → Except Reject Instr
  | .half h => decode16 h
  | .word w => if opcode w &&& 0b11 = 0b11 then decode32 w else .error .wrongLength

/-- The code that two parcels in a row begin with; the second counts only where the first says so (30 R121, 20 R85). -/
def Code.ofParcels (first second : Half) : Code :=
  if isLong first then .word (second ++ first) else .half first

/-- The parcel of two bytes, the one at the lower address first (20 R85). -/
def parcelOfBytes (low high : Byte) : Half := high ++ low

/-- Byte k of an instruction whose bits are w, as spec/opcode_table.json numbers them; the bits above nbits are zero. -/
def tableByte (nbits w k : Nat) : Byte := BitVec.ofNat 8 (w % 2 ^ nbits / 256 ^ k)

/-- The instruction that the decoder reads from a word of spec/opcode_table.json, laid out in memory order. -/
def decodeTableWord (nbits w : Nat) : Option Instr :=
  match decode (Code.ofParcels (parcelOfBytes (tableByte nbits w 0) (tableByte nbits w 1))
      (parcelOfBytes (tableByte nbits w 2) (tableByte nbits w 3))) with
  | .ok i => some i
  | .error _ => none

/-! ### Encoding (30 R122 to R130) -/

/-- The I format: the immediate lies in bits 31:20 (30 R122). -/
def encodeI (imm : BitVec 12) (rs1 : RegIdx) (f3 : BitVec 3) (rd : RegIdx) (op : BitVec 7) : Word :=
  mkWord (imm.extractLsb' 5 7) (imm.extractLsb' 0 5) rs1 f3 rd op
/-- The S format (30 R122). -/
def encodeS (imm : BitVec 12) (rs2 rs1 : RegIdx) (f3 : BitVec 3) (op : BitVec 7) : Word :=
  mkWord (imm.extractLsb' 5 7) rs2 rs1 f3 (imm.extractLsb' 0 5) op
/-- The B format (30 R122). -/
def encodeB (offset : BitVec 13) (rs2 rs1 : RegIdx) (f3 : BitVec 3) (op : BitVec 7) : Word :=
  mkWord (offset.extractLsb' 12 1 ++ offset.extractLsb' 5 6) rs2 rs1 f3
    (offset.extractLsb' 1 4 ++ offset.extractLsb' 11 1) op
/-- The U format (30 R122). -/
def encodeU (imm : BitVec 20) (rd : RegIdx) (op : BitVec 7) : Word :=
  mkWord (imm.extractLsb' 13 7) (imm.extractLsb' 8 5) (imm.extractLsb' 3 5) (imm.extractLsb' 0 3) rd op
/-- The J format (30 R122). -/
def encodeJ (offset : BitVec 21) (rd : RegIdx) (op : BitVec 7) : Word :=
  mkWord (offset.extractLsb' 20 1 ++ offset.extractLsb' 5 6) (offset.extractLsb' 1 4 ++ offset.extractLsb' 11 1)
    (offset.extractLsb' 15 5) (offset.extractLsb' 12 3) rd op
/-- The R-atomic format (30 R123). -/
def encodeAtomic (f5 : BitVec 5) (aq rl : Bool) (rs2 rs1 : RegIdx) (rd : RegIdx) : Word :=
  mkWord (f5 ++ BitVec.ofBool aq ++ BitVec.ofBool rl) rs2 rs1 0b010 rd 0b0101111
/-- The CI format (30 R124). -/
def encodeCI (f3 : BitVec 3) (imm : BitVec 6) (rd : RegIdx) (q : BitVec 2) : Half :=
  mkHalf f3 (imm.extractLsb' 5 1) (rd.extractLsb' 3 2) (rd.extractLsb' 0 3) (imm.extractLsb' 3 2) (imm.extractLsb' 0 3) q
/-- The CR format (30 R124). -/
def encodeCR (f3 : BitVec 3) (b12 : BitVec 1) (rd rs2 : RegIdx) : Half :=
  mkHalf f3 b12 (rd.extractLsb' 3 2) (rd.extractLsb' 0 3) (rs2.extractLsb' 3 2) (rs2.extractLsb' 0 3) 0b10
/-- The CL and CS formats of c.lw and c.sw (30 R124, R127). -/
def encodeCWord (f3 : BitVec 3) (uimm : BitVec 7) (r97 r42 : CReg) : Half :=
  mkHalf f3 (uimm.extractLsb' 5 1) (uimm.extractLsb' 3 2) r97 (uimm.extractLsb' 2 1 ++ uimm.extractLsb' 6 1) r42 0b00
/-- The CJ format (30 R124, R127). -/
def encodeCJ (f3 : BitVec 3) (offset : BitVec 12) : Half :=
  mkHalf f3 (offset.extractLsb' 11 1) (offset.extractLsb' 4 1 ++ offset.extractLsb' 9 1)
    (offset.extractLsb' 8 1 ++ offset.extractLsb' 10 1 ++ offset.extractLsb' 6 1)
    (offset.extractLsb' 7 1 ++ offset.extractLsb' 3 1) (offset.extractLsb' 1 2 ++ offset.extractLsb' 5 1) 0b01
/-- The CB format of the branches (30 R124, R127). -/
def encodeCB (f3 : BitVec 3) (offset : BitVec 9) (rs1 : CReg) : Half :=
  mkHalf f3 (offset.extractLsb' 8 1) (offset.extractLsb' 3 2) rs1 (offset.extractLsb' 6 2)
    (offset.extractLsb' 1 2 ++ offset.extractLsb' 5 1) 0b01
/-- The CA format (30 R124). -/
def encodeCA (b12 : BitVec 1) (rd : CReg) (b65 : BitVec 2) (rs2 : CReg) : Half := mkHalf 0b100 b12 0b11 rd b65 rs2 0b01
/-- The CLB and CSB formats (30 R124, R127). -/
def encodeCByte (f2 : BitVec 2) (uimm : BitVec 2) (r97 r42 : CReg) : Half :=
  mkHalf 0b100 0 f2 r97 (uimm.extractLsb' 0 1 ++ uimm.extractLsb' 1 1) r42 0b00
/-- The CLH and CSH formats (30 R124, R127). -/
def encodeCHalf (f2 : BitVec 2) (f1 : BitVec 1) (uimm : BitVec 2) (r97 r42 : CReg) : Half :=
  mkHalf 0b100 0 f2 r97 (f1 ++ uimm.extractLsb' 1 1) r42 0b00
/-- The CMPP format (30 R124, R136). -/
def encodeCMPP (f2 : BitVec 2) (b98 : BitVec 2) (rlist : BitVec 4) (spimm : BitVec 2) : Half :=
  mkHalf 0b101 1 f2 (b98 ++ rlist.extractLsb' 3 1) (rlist.extractLsb' 1 2) (rlist.extractLsb' 0 1 ++ spimm) 0b10

/-- The code of an instruction; it says something of well-formed instructions only. -/
def encode : Instr → Code
  | .add rd rs1 rs2 => .word (mkWord 0b0000000 rs2 rs1 0b000 rd 0b0110011)
  | .and rd rs1 rs2 => .word (mkWord 0b0000000 rs2 rs1 0b111 rd 0b0110011)
  | .or rd rs1 rs2 => .word (mkWord 0b0000000 rs2 rs1 0b110 rd 0b0110011)
  | .sll rd rs1 rs2 => .word (mkWord 0b0000000 rs2 rs1 0b001 rd 0b0110011)
  | .slt rd rs1 rs2 => .word (mkWord 0b0000000 rs2 rs1 0b010 rd 0b0110011)
  | .sltu rd rs1 rs2 => .word (mkWord 0b0000000 rs2 rs1 0b011 rd 0b0110011)
  | .sra rd rs1 rs2 => .word (mkWord 0b0100000 rs2 rs1 0b101 rd 0b0110011)
  | .srl rd rs1 rs2 => .word (mkWord 0b0000000 rs2 rs1 0b101 rd 0b0110011)
  | .sub rd rs1 rs2 => .word (mkWord 0b0100000 rs2 rs1 0b000 rd 0b0110011)
  | .xor rd rs1 rs2 => .word (mkWord 0b0000000 rs2 rs1 0b100 rd 0b0110011)
  | .addi rd rs1 imm => .word (encodeI imm rs1 0b000 rd 0b0010011)
  | .andi rd rs1 imm => .word (encodeI imm rs1 0b111 rd 0b0010011)
  | .ori rd rs1 imm => .word (encodeI imm rs1 0b110 rd 0b0010011)
  | .slli rd rs1 shamt => .word (mkWord 0b0000000 shamt rs1 0b001 rd 0b0010011)
  | .slti rd rs1 imm => .word (encodeI imm rs1 0b010 rd 0b0010011)
  | .sltiu rd rs1 imm => .word (encodeI imm rs1 0b011 rd 0b0010011)
  | .srai rd rs1 shamt => .word (mkWord 0b0100000 shamt rs1 0b101 rd 0b0010011)
  | .srli rd rs1 shamt => .word (mkWord 0b0000000 shamt rs1 0b101 rd 0b0010011)
  | .xori rd rs1 imm => .word (encodeI imm rs1 0b100 rd 0b0010011)
  | .auipc rd imm => .word (encodeU imm rd 0b0010111)
  | .lui rd imm => .word (encodeU imm rd 0b0110111)
  | .beq rs1 rs2 offset => .word (encodeB offset rs2 rs1 0b000 0b1100011)
  | .bge rs1 rs2 offset => .word (encodeB offset rs2 rs1 0b101 0b1100011)
  | .bgeu rs1 rs2 offset => .word (encodeB offset rs2 rs1 0b111 0b1100011)
  | .blt rs1 rs2 offset => .word (encodeB offset rs2 rs1 0b100 0b1100011)
  | .bltu rs1 rs2 offset => .word (encodeB offset rs2 rs1 0b110 0b1100011)
  | .bne rs1 rs2 offset => .word (encodeB offset rs2 rs1 0b001 0b1100011)
  | .jal rd offset => .word (encodeJ offset rd 0b1101111)
  | .jalr rd rs1 imm => .word (encodeI imm rs1 0b000 rd 0b1100111)
  | .lb rd rs1 imm => .word (encodeI imm rs1 0b000 rd 0b0000011)
  | .lbu rd rs1 imm => .word (encodeI imm rs1 0b100 rd 0b0000011)
  | .lh rd rs1 imm => .word (encodeI imm rs1 0b001 rd 0b0000011)
  | .lhu rd rs1 imm => .word (encodeI imm rs1 0b101 rd 0b0000011)
  | .lw rd rs1 imm => .word (encodeI imm rs1 0b010 rd 0b0000011)
  | .sb rs1 rs2 imm => .word (encodeS imm rs2 rs1 0b000 0b0100011)
  | .sh rs1 rs2 imm => .word (encodeS imm rs2 rs1 0b001 0b0100011)
  | .sw rs1 rs2 imm => .word (encodeS imm rs2 rs1 0b010 0b0100011)
  | .div rd rs1 rs2 => .word (mkWord 0b0000001 rs2 rs1 0b100 rd 0b0110011)
  | .divu rd rs1 rs2 => .word (mkWord 0b0000001 rs2 rs1 0b101 rd 0b0110011)
  | .mul rd rs1 rs2 => .word (mkWord 0b0000001 rs2 rs1 0b000 rd 0b0110011)
  | .mulh rd rs1 rs2 => .word (mkWord 0b0000001 rs2 rs1 0b001 rd 0b0110011)
  | .mulhsu rd rs1 rs2 => .word (mkWord 0b0000001 rs2 rs1 0b010 rd 0b0110011)
  | .mulhu rd rs1 rs2 => .word (mkWord 0b0000001 rs2 rs1 0b011 rd 0b0110011)
  | .rem rd rs1 rs2 => .word (mkWord 0b0000001 rs2 rs1 0b110 rd 0b0110011)
  | .remu rd rs1 rs2 => .word (mkWord 0b0000001 rs2 rs1 0b111 rd 0b0110011)
  | .amoaddW rd rs1 rs2 aq rl => .word (encodeAtomic 0b00000 aq rl rs2 rs1 rd)
  | .amoandW rd rs1 rs2 aq rl => .word (encodeAtomic 0b01100 aq rl rs2 rs1 rd)
  | .amomaxW rd rs1 rs2 aq rl => .word (encodeAtomic 0b10100 aq rl rs2 rs1 rd)
  | .amomaxuW rd rs1 rs2 aq rl => .word (encodeAtomic 0b11100 aq rl rs2 rs1 rd)
  | .amominW rd rs1 rs2 aq rl => .word (encodeAtomic 0b10000 aq rl rs2 rs1 rd)
  | .amominuW rd rs1 rs2 aq rl => .word (encodeAtomic 0b11000 aq rl rs2 rs1 rd)
  | .amoorW rd rs1 rs2 aq rl => .word (encodeAtomic 0b01000 aq rl rs2 rs1 rd)
  | .amoswapW rd rs1 rs2 aq rl => .word (encodeAtomic 0b00001 aq rl rs2 rs1 rd)
  | .amoxorW rd rs1 rs2 aq rl => .word (encodeAtomic 0b00100 aq rl rs2 rs1 rd)
  | .lrW rd rs1 aq rl => .word (encodeAtomic 0b00010 aq rl 0 rs1 rd)
  | .scW rd rs1 rs2 aq rl => .word (encodeAtomic 0b00011 aq rl rs2 rs1 rd)
  | .sh1add rd rs1 rs2 => .word (mkWord 0b0010000 rs2 rs1 0b010 rd 0b0110011)
  | .sh2add rd rs1 rs2 => .word (mkWord 0b0010000 rs2 rs1 0b100 rd 0b0110011)
  | .sh3add rd rs1 rs2 => .word (mkWord 0b0010000 rs2 rs1 0b110 rd 0b0110011)
  | .andn rd rs1 rs2 => .word (mkWord 0b0100000 rs2 rs1 0b111 rd 0b0110011)
  | .clz rd rs1 => .word (mkWord 0b0110000 0b00000 rs1 0b001 rd 0b0010011)
  | .cpop rd rs1 => .word (mkWord 0b0110000 0b00010 rs1 0b001 rd 0b0010011)
  | .ctz rd rs1 => .word (mkWord 0b0110000 0b00001 rs1 0b001 rd 0b0010011)
  | .max rd rs1 rs2 => .word (mkWord 0b0000101 rs2 rs1 0b110 rd 0b0110011)
  | .maxu rd rs1 rs2 => .word (mkWord 0b0000101 rs2 rs1 0b111 rd 0b0110011)
  | .min rd rs1 rs2 => .word (mkWord 0b0000101 rs2 rs1 0b100 rd 0b0110011)
  | .minu rd rs1 rs2 => .word (mkWord 0b0000101 rs2 rs1 0b101 rd 0b0110011)
  | .orcB rd rs1 => .word (mkWord 0b0010100 0b00111 rs1 0b101 rd 0b0010011)
  | .orn rd rs1 rs2 => .word (mkWord 0b0100000 rs2 rs1 0b110 rd 0b0110011)
  | .rev8 rd rs1 => .word (mkWord 0b0110100 0b11000 rs1 0b101 rd 0b0010011)
  | .rol rd rs1 rs2 => .word (mkWord 0b0110000 rs2 rs1 0b001 rd 0b0110011)
  | .ror rd rs1 rs2 => .word (mkWord 0b0110000 rs2 rs1 0b101 rd 0b0110011)
  | .rori rd rs1 shamt => .word (mkWord 0b0110000 shamt rs1 0b101 rd 0b0010011)
  | .sextB rd rs1 => .word (mkWord 0b0110000 0b00100 rs1 0b001 rd 0b0010011)
  | .sextH rd rs1 => .word (mkWord 0b0110000 0b00101 rs1 0b001 rd 0b0010011)
  | .xnor rd rs1 rs2 => .word (mkWord 0b0100000 rs2 rs1 0b100 rd 0b0110011)
  | .zextH rd rs1 => .word (mkWord 0b0000100 0b00000 rs1 0b100 rd 0b0110011)
  | .bclr rd rs1 rs2 => .word (mkWord 0b0100100 rs2 rs1 0b001 rd 0b0110011)
  | .bclri rd rs1 shamt => .word (mkWord 0b0100100 shamt rs1 0b001 rd 0b0010011)
  | .bext rd rs1 rs2 => .word (mkWord 0b0100100 rs2 rs1 0b101 rd 0b0110011)
  | .bexti rd rs1 shamt => .word (mkWord 0b0100100 shamt rs1 0b101 rd 0b0010011)
  | .binv rd rs1 rs2 => .word (mkWord 0b0110100 rs2 rs1 0b001 rd 0b0110011)
  | .binvi rd rs1 shamt => .word (mkWord 0b0110100 shamt rs1 0b001 rd 0b0010011)
  | .bset rd rs1 rs2 => .word (mkWord 0b0010100 rs2 rs1 0b001 rd 0b0110011)
  | .bseti rd rs1 shamt => .word (mkWord 0b0010100 shamt rs1 0b001 rd 0b0010011)
  | .brev8 rd rs1 => .word (mkWord 0b0110100 0b00111 rs1 0b101 rd 0b0010011)
  | .pack rd rs1 rs2 => .word (mkWord 0b0000100 rs2 rs1 0b100 rd 0b0110011)
  | .packh rd rs1 rs2 => .word (mkWord 0b0000100 rs2 rs1 0b111 rd 0b0110011)
  | .unzip rd rs1 => .word (mkWord 0b0000100 0b01111 rs1 0b101 rd 0b0010011)
  | .zip rd rs1 => .word (mkWord 0b0000100 0b01111 rs1 0b001 rd 0b0010011)
  | .fence fm pred succ rs1 rd => .word (encodeI (fm ++ pred ++ succ) rs1 0b000 rd 0b0001111)
  | .fenceTso => .word 0x8330000f
  | .fenceI imm rs1 rd => .word (encodeI imm rs1 0b001 rd 0b0001111)
  | .csrrc rd csr rs1 => .word (encodeI csr rs1 0b011 rd 0b1110011)
  | .csrrci rd csr uimm => .word (encodeI csr uimm 0b111 rd 0b1110011)
  | .csrrs rd csr rs1 => .word (encodeI csr rs1 0b010 rd 0b1110011)
  | .csrrsi rd csr uimm => .word (encodeI csr uimm 0b110 rd 0b1110011)
  | .csrrw rd csr rs1 => .word (encodeI csr rs1 0b001 rd 0b1110011)
  | .csrrwi rd csr uimm => .word (encodeI csr uimm 0b101 rd 0b1110011)
  | .ebreak => .word 0x00100073
  | .ecall => .word 0x00000073
  | .mret => .word 0x30200073
  | .wfi => .word 0x10500073
  | .cAddi4spn rd uimm => .half (mkHalf 0b000 (uimm.extractLsb' 5 1) (uimm.extractLsb' 4 1 ++ uimm.extractLsb' 9 1)
      (uimm.extractLsb' 6 3) (uimm.extractLsb' 2 1 ++ uimm.extractLsb' 3 1) rd 0b00)
  | .cLw rd rs1 uimm => .half (encodeCWord 0b010 uimm rs1 rd)
  | .cSw rs1 rs2 uimm => .half (encodeCWord 0b110 uimm rs1 rs2)
  | .cNop imm => .half (encodeCI 0b000 imm 0 0b01)
  | .cAddi rd imm => .half (encodeCI 0b000 imm rd 0b01)
  | .cJal offset => .half (encodeCJ 0b001 offset)
  | .cLi rd imm => .half (encodeCI 0b010 imm rd 0b01)
  | .cAddi16sp imm => .half (mkHalf 0b011 (imm.extractLsb' 9 1) 0b00 0b010 (imm.extractLsb' 4 1 ++ imm.extractLsb' 6 1)
      (imm.extractLsb' 7 2 ++ imm.extractLsb' 5 1) 0b01)
  | .cLui rd imm => .half (encodeCI 0b011 imm rd 0b01)
  | .cSrli rd shamt => .half (mkHalf 0b100 0 0b00 rd (shamt.extractLsb' 3 2) (shamt.extractLsb' 0 3) 0b01)
  | .cSrai rd shamt => .half (mkHalf 0b100 0 0b01 rd (shamt.extractLsb' 3 2) (shamt.extractLsb' 0 3) 0b01)
  | .cAndi rd imm => .half (mkHalf 0b100 (imm.extractLsb' 5 1) 0b10 rd (imm.extractLsb' 3 2) (imm.extractLsb' 0 3) 0b01)
  | .cSub rd rs2 => .half (encodeCA 0b0 rd 0b00 rs2)
  | .cXor rd rs2 => .half (encodeCA 0b0 rd 0b01 rs2)
  | .cOr rd rs2 => .half (encodeCA 0b0 rd 0b10 rs2)
  | .cAnd rd rs2 => .half (encodeCA 0b0 rd 0b11 rs2)
  | .cJ offset => .half (encodeCJ 0b101 offset)
  | .cBeqz rs1 offset => .half (encodeCB 0b110 offset rs1)
  | .cBnez rs1 offset => .half (encodeCB 0b111 offset rs1)
  | .cSlli rd shamt => .half (encodeCI 0b000 (0#1 ++ shamt) rd 0b10)
  | .cLwsp rd uimm => .half (mkHalf 0b010 (uimm.extractLsb' 5 1) (rd.extractLsb' 3 2) (rd.extractLsb' 0 3)
      (uimm.extractLsb' 3 2) (uimm.extractLsb' 2 1 ++ uimm.extractLsb' 6 2) 0b10)
  | .cJr rs1 => .half (encodeCR 0b100 0b0 rs1 0)
  | .cMv rd rs2 => .half (encodeCR 0b100 0b0 rd rs2)
  | .cEbreak => .half 0x9002
  | .cJalr rs1 => .half (encodeCR 0b100 0b1 rs1 0)
  | .cAdd rd rs2 => .half (encodeCR 0b100 0b1 rd rs2)
  | .cSwsp rs2 uimm => .half (mkHalf 0b110 (uimm.extractLsb' 5 1) (uimm.extractLsb' 3 2) (uimm.extractLsb' 2 1 ++ uimm.extractLsb' 6 2)
      (rs2.extractLsb' 3 2) (rs2.extractLsb' 0 3) 0b10)
  | .cLbu rd rs1 uimm => .half (encodeCByte 0b00 uimm rs1 rd)
  | .cLhu rd rs1 uimm => .half (encodeCHalf 0b01 0b0 uimm rs1 rd)
  | .cLh rd rs1 uimm => .half (encodeCHalf 0b01 0b1 uimm rs1 rd)
  | .cSb rs1 rs2 uimm => .half (encodeCByte 0b10 uimm rs1 rs2)
  | .cSh rs1 rs2 uimm => .half (encodeCHalf 0b11 0b0 uimm rs1 rs2)
  | .cZextB rd => .half (encodeCA 0b1 rd 0b11 0b000)
  | .cSextB rd => .half (encodeCA 0b1 rd 0b11 0b001)
  | .cZextH rd => .half (encodeCA 0b1 rd 0b11 0b010)
  | .cSextH rd => .half (encodeCA 0b1 rd 0b11 0b011)
  | .cNot rd => .half (encodeCA 0b1 rd 0b11 0b101)
  | .cMul rd rs2 => .half (encodeCA 0b1 rd 0b10 rs2)
  | .cmPush rlist spimm => .half (encodeCMPP 0b10 0b00 rlist spimm)
  | .cmPop rlist spimm => .half (encodeCMPP 0b10 0b10 rlist spimm)
  | .cmPopretz rlist spimm => .half (encodeCMPP 0b11 0b00 rlist spimm)
  | .cmPopret rlist spimm => .half (encodeCMPP 0b11 0b10 rlist spimm)
  | .cmMvsa01 r1s r2s => .half (mkHalf 0b101 0b0 0b11 r1s 0b01 r2s 0b10)
  | .cmMva01s r1s r2s => .half (mkHalf 0b101 0b0 0b11 r1s 0b11 r2s 0b10)

end Sys2Proof
end

