-- ==== Sys2Proof/Machine/Fetch.lean ====
section
/-!
DEFINITION. Instruction fetch (spec/20_memory.md R86, R110 to R113; spec/10_state.md R38).
-/

namespace Sys2Proof.Machine

/-- What a fetch gives. -/
inductive Fetched where
  | code (c : Code)
  | trap (c : Cause)
  | fault (f : Fault)
  deriving DecidableEq, Repr

/-- The values that a byte has held since the hart's last fence.i, before the stores to it; none for a byte outside W
(20 R110). -/
def Hart.heldValues (h : Hart) (a : Nat) : List Byte := (h.stale.filter fun e => decide (e.1 = a)).map Prod.snd

/-- The byte of memory that the fetch returns as byte k of the instruction: as it is, or for a byte of W any that it has held, as the
inputs choose (20 R110; log 25). -/
def State.fetchByte (s : State) (k : Nat) (a : Word) : Byte :=
  match s.hart.heldValues a.toNat with
  | [] => s.mem.read8 a
  | old :: rest =>
    (s.mem.read8 a :: old :: rest).getD ((s.inputs.fetchPicks.getD k 0) % (rest.length + 2)) (s.mem.read8 a)

/-- The two bytes at an address that the fetch returns as bytes k and k+1 of the instruction. What a device answers is an input
(20 R95, R97; log 13). -/
def State.fetchParcel (s : State) (k : Nat) (a : Word) : Half :=
  if s.plat.isDevice a then s.inputs.deviceCode.extractLsb' (8 * k) 16
  else parcelOfBytes (s.fetchByte k a) (s.fetchByte (k + 1) (a + 1))

/-- The checks of the fetch of a parcel: protection at the current privilege level, never MPRV, and bus fault, one cause for both
(20 R86, R96). -/
def State.fetchVerdict (s : State) (a : Word) : Verdict :=
  if !pmpAllows s.plat s.hart s.hart.priv .execute a || s.plat.busFault .fetch a then .trap .fetchFault
  else .allowed

/-- The fetch of the second parcel, of a 32-bit instruction (20 R86). It may not wrap to address 0 (92 D29; log 27). -/
def State.fetchSecond (s : State) (first : Half) : Fetched :=
  if s.hart.pc + 2 = 0 then .fault .fetchWraps
  else match s.fetchVerdict (s.hart.pc + 2) with
    | .trap c => .trap c
    | .allowed => .code (Code.ofParcels first (s.fetchParcel 2 (s.hart.pc + 2)))

/-- The fetch of the instruction at the pc (20 R86; 60 R434 (1)). -/
def State.fetch (s : State) : Fetched :=
  match s.fetchVerdict s.hart.pc with
  | .trap c => .trap c
  | .allowed =>
    if isLong (s.fetchParcel 0 s.hart.pc) then s.fetchSecond (s.fetchParcel 0 s.hart.pc)
    else .code (Code.ofParcels (s.fetchParcel 0 s.hart.pc) 0)

/-- The instruction at the pc is a conditional branch of whose bytes one lies in W: "Hazard3 behaves unpredictably" (20 R113;
92 D18; log 26). -/
def State.runsStaleBranch (s : State) (i : Instr) : Bool :=
  i.isConditionalBranch &&
    (List.range i.length).any fun k => !(s.hart.heldValues (s.hart.pc + BitVec.ofNat 32 k).toNat).isEmpty

end Sys2Proof.Machine
end

