-- ==== Sys2Proof/Machine/Step.lean ====
section
/-!
DEFINITION. One step of the machine: an interrupt taken, or one instruction of the running hart fetched, decoded and run
(spec/60_exceptions.md R443, spec/00_scope.md R11). And where a program's next instruction is put (log 34).
-/

namespace Sys2Proof.Machine

/-- The code that was fetched, run. A code that stands for no instruction raises an illegal-instruction exception (30 R131, R132). -/
def runCode (c : Code) (s : State) : Result :=
  match decode c with
  | .error _ => raise .illegal s
  | .ok i => if s.runsStaleBranch i then .fault .staleBranch else exec i s

/-- The instruction at the pc, fetched and run. -/
def runInstruction (s : State) : Result :=
  match s.fetch with
  | .code c => runCode c s
  | .trap c => raise c s
  | .fault f => .fault f

/-- One step: an interrupt that is to be taken comes before the instruction (60 R443). -/
def step (s : State) : Host.Outcome State Fault Refusal :=
  advanced (match s.takenInterrupt with
    | some i => .next (enterTrap (.interrupt i) s)
    | none => runInstruction s)

/-- Four bytes put in memory from outside the machine. -/
def Memory.place (m : Memory) (a : Word) (b0 b1 b2 b3 : Byte) : Memory :=
  (((m.write a.toNat b0).write (a + 1).toNat b1).write (a + 2).toNat b2).write (a + 3).toNat b3

/-- The machine with an instruction of spec/opcode_table.json where the next step fetches: its bytes at the pc, and nothing that a fetch
could see in their place (log 34). -/
def State.withFetchWord (s : State) (nbits w : Nat) : State :=
  { s with
    mem := s.mem.place s.hart.pc (tableByte nbits w 0) (tableByte nbits w 1) (tableByte nbits w 2) (tableByte nbits w 3)
    hart := { s.hart with stale := [] } }

end Sys2Proof.Machine
end

