-- ==== Sys2Proof/Safety.lean ====
section
/-!
DEFINITION. The terms that statements about the machine are made of: what an instruction leaves unchanged, what it is to write
registers, to store, to trap, and the invariant of the states that runs reach.
-/

namespace Sys2Proof.Machine

/-! ### What stays as it is -/

/-- Nothing that configures the hart changes: its number, its privilege level, its CSRs but for minstret, its PMP entries and its debug
bits. -/
def Hart.sameControl (h k : Hart) : Prop :=
  k.id = h.id ∧ k.priv = h.priv ∧ k.mstatus = h.mstatus ∧ k.mie = h.mie ∧ k.mtvec = h.mtvec ∧ k.mscratch = h.mscratch ∧
    k.mepc = h.mepc ∧ k.mcause = h.mcause ∧ k.mcounteren = h.mcounteren ∧ k.mcountinhibit = h.mcountinhibit ∧
    k.mcycle = h.mcycle ∧ k.pmpcfg = h.pmpcfg ∧ k.pmpaddr = h.pmpaddr ∧ k.dcsrEbreakM = h.dcsrEbreakM ∧
    k.dcsrEbreakU = h.dcsrEbreakU

/-- The local monitor and the reservation stay. -/
def Hart.sameMonitors (h k : Hart) : Prop := k.localMonitor = h.localMonitor ∧ k.reservation = h.reservation

/-- minstret counts one instruction, unless mcountinhibit.IR (bit 2) stops it (10 R58, R59). -/
def Hart.countsOne (h k : Hart) : Prop :=
  k.minstret = if h.mcountinhibit.getLsbD 2 then h.minstret else h.minstret + 1

/-- The parameters of the system and the model's own fields stay. -/
def State.sameSystem (s t : State) : Prop := t.plat = s.plat ∧ t.turns = s.turns ∧ t.script = s.script ∧ t.now = s.now

/-- Every byte of memory reads as before. -/
def State.sameMemory (s t : State) : Prop := ∀ x : Nat, t.mem.byteAt x = s.mem.byteAt x

/-- Every register reads as before. -/
def Hart.sameRegs (h k : Hart) : Prop := ∀ q : RegIdx, k.reg q = h.reg q

/-! ### What an instruction does -/

/-- The instruction completes: the registers read as `f` says, the pc is `pc`, one instruction is counted, and everything else of the
machine is as before. -/
def WritesRegs (r : Result) (s : State) (f : RegIdx → Word) (pc : Word) : Prop :=
  ∃ t, r = .next t ∧ (∀ q, t.reg q = f q) ∧ t.hart.pc = pc ∧ s.hart.countsOne t.hart ∧ s.hart.sameControl t.hart ∧
    s.hart.sameMonitors t.hart ∧ t.hart.stale = s.hart.stale ∧ t.other = s.other ∧ s.sameMemory t ∧ s.sameSystem t

/-- The registers of the running hart, but for rd, which reads v; x0 reads as before, that is 0 (10 R32). -/
def State.regsWith (s : State) (rd : RegIdx) (v : Word) (q : RegIdx) : Word := if q = rd ∧ rd ≠ 0#5 then v else s.reg q

/-- The instruction completes: it writes v to rd and goes to `pc`, and nothing else changes but the count of instructions. -/
def WritesReg (r : Result) (s : State) (rd : RegIdx) (v pc : Word) : Prop := WritesRegs r s (s.regsWith rd v) pc

/-- The address of the instruction after i. -/
def State.pcAfter (s : State) (i : Instr) : Word := s.hart.pc + BitVec.ofNat 32 i.length

/-- The instruction writes v to rd and the next one follows it. -/
def Computes (i : Instr) (s : State) (rd : RegIdx) (v : Word) : Prop := WritesReg (exec i s) s rd v (s.pcAfter i)

/-- The byte that a store of n bytes of v at a leaves at the address x, little-endian; none outside the stored bytes. The address is
aligned, so that the bytes do not wrap. -/
def storedByte (a v : Word) (n : Nat) (x : Nat) : Option Byte :=
  if a.toNat ≤ x ∧ x < a.toNat + n then some ((v >>> (8 * (x - a.toNat))).setWidth 8) else none

/-- The values that a fetch of the byte x may see besides the memory's: one more where the byte has been stored. -/
def Hart.remembers (s : State) (new : Nat → Option Byte) (h k : Hart) : Prop :=
  ∀ x, k.heldValues x = if (new x).isSome then s.mem.byteAt x :: h.heldValues x else h.heldValues x

/-- The bytes that `new` gives are written: memory holds them, or a device takes them and memory stays; every other byte of memory
reads as before. The written bytes join the sets W of both harts, with the old bytes (20 R110, R111). The other hart keeps
everything else; its reservation ends where `new` writes in its granule, and stays otherwise (44 R259). -/
def State.storesInto (s t : State) (device : Bool) (new : Nat → Option Byte) : Prop :=
  (∀ x, t.mem.byteAt x = if device then s.mem.byteAt x else (new x).getD (s.mem.byteAt x)) ∧
    s.hart.remembers s new t.hart ∧ s.other.remembers s new t.other ∧
    s.other.sameRegs t.other ∧ t.other.pc = s.other.pc ∧ t.other.minstret = s.other.minstret ∧
    s.other.sameControl t.other ∧ t.other.localMonitor = s.other.localMonitor ∧
    (t.other.reservation = s.other.reservation ∨ t.other.reservation = none) ∧
    (∀ x : Word, (new x.toNat).isSome → t.other.reservedAt s.plat x = false) ∧
    (∀ q, s.other.reservation = some q → (∀ x : Word, (new x.toNat).isSome → s.plat.granule x ≠ s.plat.granule q) →
      t.other.reservation = some q)

/-- The instruction completes: it writes the bytes that `new` gives, to memory or a device, its registers read as `f` says, the pc is
`pc`; nothing else of the running hart changes but the count of instructions and what its fetches may see. -/
def StoresWith (r : Result) (s : State) (device : Bool) (new : Nat → Option Byte) (f : RegIdx → Word) (pc : Word) : Prop :=
  ∃ t, r = .next t ∧ s.storesInto t device new ∧ (∀ q, t.reg q = f q) ∧ t.hart.pc = pc ∧ s.hart.countsOne t.hart ∧
    s.hart.sameControl t.hart ∧ s.hart.sameMonitors t.hart ∧ s.sameSystem t

/-- The instruction writes n bytes of v at a, to what answers there, and the next one follows it; every register reads as before. -/
def Stores (i : Instr) (s : State) (a v : Word) (n : Nat) : Prop :=
  StoresWith (exec i s) s (s.plat.isDevice a) (storedByte a v n) s.reg (s.pcAfter i)

/-- An exclusive write or an AMO: as `StoresWith`, but the hart's monitors end clear (44 R257, R259 (b)). -/
def StoresExclusively (r : Result) (s : State) (device : Bool) (new : Nat → Option Byte) (f : RegIdx → Word) (pc : Word) : Prop :=
  ∃ t, r = .next t ∧ s.storesInto t device new ∧ (∀ q, t.reg q = f q) ∧ t.hart.pc = pc ∧ s.hart.countsOne t.hart ∧
    s.hart.sameControl t.hart ∧ t.hart.localMonitor = false ∧ t.hart.reservation = none ∧ s.sameSystem t

/-- The hart k is the hart h after the trap at its pc (60 R450): mepc, mcause, mstatus, priv, the local monitor and the pc change as
the rule says, and nothing else of it does, but for what its fetches may see, of which this says nothing. -/
def Hart.trapped (h k : Hart) (cause target : Word) : Prop :=
  k.mepc = h.pc ∧ k.mcause = cause ∧ k.mstatus.mpie = h.mstatus.mie ∧ k.mstatus.mie = false ∧ k.mstatus.mpp = h.priv ∧
    k.mstatus.mprv = h.mstatus.mprv ∧ k.mstatus.tw = h.mstatus.tw ∧ k.priv = .machine ∧ k.localMonitor = false ∧
    k.pc = target ∧ h.sameRegs k ∧ k.id = h.id ∧ k.reservation = h.reservation ∧ k.mie = h.mie ∧ k.mtvec = h.mtvec ∧
    k.mscratch = h.mscratch ∧ k.mcounteren = h.mcounteren ∧ k.mcountinhibit = h.mcountinhibit ∧ k.mcycle = h.mcycle ∧
    k.minstret = h.minstret ∧ k.pmpcfg = h.pmpcfg ∧ k.pmpaddr = h.pmpaddr ∧ k.dcsrEbreakM = h.dcsrEbreakM ∧
    k.dcsrEbreakU = h.dcsrEbreakU

/-- The hart enters the trap at its pc, and nothing else of the machine changes. -/
def TrapsTo (r : Result) (s : State) (cause target : Word) : Prop :=
  ∃ t, r = .next t ∧ s.hart.trapped t.hart cause target ∧ t.hart.stale = s.hart.stale ∧ t.other = s.other ∧
    t.mem = s.mem ∧ s.sameSystem t

/-- The exception with the code c: the handler stands at mtvec with its two low bits cleared (60 R450 (7)). -/
def Raises (r : Result) (s : State) (c : Word) : Prop := TrapsTo r s c (s.hart.mtvec &&& 0xfffffffc)

/-! ### When an access goes through -/

/-- PmpCheck lets a load or store through: at the level of mstatus.MPP where MPRV is set, else at the current one (10 R46, 20
R96). -/
def State.permits (s : State) (kind : PmpKind) (a : Word) : Prop :=
  pmpAllows s.plat s.hart (if s.hart.mstatus.mprv = true then s.hart.mstatus.mpp else s.hart.priv) kind a = true

/-- A load of n bytes at a passes every check: alignment, protection and bus fault (20 R92). -/
def State.canLoad (s : State) (n : Nat) (a : Word) : Prop :=
  a.toNat % n = 0 ∧ s.permits .read a ∧ s.plat.busFault .load a = false

/-- A store of n bytes at a passes every check. -/
def State.canStore (s : State) (n : Nat) (a : Word) : Prop :=
  a.toNat % n = 0 ∧ s.permits .write a ∧ s.plat.busFault .store a = false

/-- An AMO at a passes every check (44 R260). -/
def State.canUpdate (s : State) (a : Word) : Prop :=
  a.toNat % 4 = 0 ∧ s.permits .readWrite a ∧ s.plat.busFault .exclusive a = false ∧ s.plat.supportsExclusive a = true

/-! ### Words of memory, stacks, CSR accesses -/

/-- The two bytes of memory at an aligned address, the one at the lower address less significant. -/
def State.halfAt (s : State) (a : Word) : Half := s.mem.byteAt (a.toNat + 1) ++ s.mem.byteAt a.toNat

/-- The four bytes of memory at an aligned address. -/
def State.wordAt (s : State) (a : Word) : Word :=
  s.mem.byteAt (a.toNat + 3) ++ s.mem.byteAt (a.toNat + 2) ++ s.mem.byteAt (a.toNat + 1) ++ s.mem.byteAt a.toNat

/-- What a read of one byte returns: the byte of memory, or what the device there answers, which is an input (20 R92; log 13). -/
def State.byteRead (s : State) (a : Word) : Byte :=
  if s.plat.isDevice a then s.inputs.deviceData.setWidth 8 else s.mem.byteAt a.toNat

/-- What an aligned read of two bytes returns. -/
def State.halfRead (s : State) (a : Word) : Half :=
  if s.plat.isDevice a then s.inputs.deviceData.setWidth 16 else s.halfAt a

/-- What an aligned read of four bytes returns. -/
def State.wordRead (s : State) (a : Word) : Word := if s.plat.isDevice a then s.inputs.deviceData else s.wordAt a

/-- The address of the k-th access of a push or pop that works downwards from `top`. -/
def slot (top : Word) (k : Nat) : Word := top - 4 * BitVec.ofNat 32 (k + 1)

/-- The byte that the first n stores of a push leave at the address x: the registers of the list, the last first, downwards from sp
(48 R385). -/
def State.pushedByte (s : State) (rlist : BitVec 4) (n : Nat) (x : Nat) : Option Byte :=
  (List.range n).findSome? fun k =>
    match (registerList rlist).reverse[k]? with
    | some r => storedByte (slot (s.reg sp) k) (s.reg r) 4 x
    | none => none

/-- What a register reads after a pop from below `top`: the word of its slot where it is in the list, `top` for sp, else as before
(48 R386). -/
def State.poppedReg (s : State) (rlist : BitVec 4) (top : Word) (q : RegIdx) : Word :=
  if q = sp then top
  else match (List.range (registerList rlist).length).find? fun k => (registerList rlist).reverse[k]? == some q with
    | some k => s.wordAt (slot top k)
    | none => s.reg q

/-- The first n loads of a pop from below `top` pass their checks and reach memory, no device. -/
def State.canPop (s : State) (top : Word) (n : Nat) : Prop :=
  ∀ k, k < n → s.canLoad 4 (slot top k) ∧ s.plat.isDevice (slot top k) = false

/-- The first n stores of a push from sp downwards pass their checks and reach memory, no device. -/
def State.canPush (s : State) (n : Nat) : Prop :=
  ∀ k, k < n → s.canStore 4 (slot (s.reg sp) k) ∧ s.plat.isDevice (slot (s.reg sp) k) = false

/-- The code stands for no instruction. -/
def Rejected (c : Code) : Prop := ∃ e, decode c = .error e

/-- A write of the register c changes no field but the one that holds c: of the PMP, the four entries of a pmpcfg register or the one
address register. -/
def Hart.sameBut (c : Csr) (h k : Hart) : Prop :=
  h.sameRegs k ∧ k.pc = h.pc ∧ h.sameMonitors k ∧ k.stale = h.stale ∧ k.id = h.id ∧ k.priv = h.priv ∧
    k.dcsrEbreakM = h.dcsrEbreakM ∧ k.dcsrEbreakU = h.dcsrEbreakU ∧
    (c ≠ .mstatus → k.mstatus = h.mstatus) ∧ (c ≠ .mie → k.mie = h.mie) ∧ (c ≠ .mtvec → k.mtvec = h.mtvec) ∧
    (c ≠ .mscratch → k.mscratch = h.mscratch) ∧ (c ≠ .mepc → k.mepc = h.mepc) ∧ (c ≠ .mcause → k.mcause = h.mcause) ∧
    (c ≠ .mcounteren → k.mcounteren = h.mcounteren) ∧ (c ≠ .mcountinhibit → k.mcountinhibit = h.mcountinhibit) ∧
    (c ≠ .mcycle → c ≠ .mcycleh → k.mcycle = h.mcycle) ∧ (c ≠ .minstret → c ≠ .minstreth → k.minstret = h.minstret) ∧
    (∀ n : Fin 16, (∀ j : Fin 4, n.val / 4 = j.val → c ≠ .pmpcfg j) → k.pmpcfg[n] = h.pmpcfg[n]) ∧
    (∀ n : Fin 16, c ≠ .pmpaddr n → k.pmpaddr[n] = h.pmpaddr[n])

/-- The CSR instruction completes: rd gets the old value of the register c, the hart's special registers are those that writing `write`
leaves (unchanged where there is none), and the next instruction follows. minstret counts the instruction unless the instruction
writes it, whose write stands in place of its increment (log 10); the count goes by the old mcountinhibit (log 39). Nothing else
changes. -/
def AccessesCsr (r : Result) (s : State) (c : Csr) (rd : RegIdx) (write : Option Word) : Prop :=
  ∃ t, r = .next t ∧ (∀ q, t.reg q = s.regsWith rd (csrRead c s) q) ∧ t.hart.pc = s.hart.pc + 4 ∧
    (match write with
      | none => s.hart.sameControl t.hart ∧ s.hart.countsOne t.hart
      | some v => (s.hart.csrWrite s.plat c v).sameControl t.hart ∧
          (if c = .minstret ∨ c = .minstreth then t.hart.minstret = (s.hart.csrWrite s.plat c v).minstret else s.hart.countsOne t.hart)) ∧
    s.hart.sameMonitors t.hart ∧ t.hart.stale = s.hart.stale ∧ t.other = s.other ∧ t.mem = s.mem ∧ s.sameSystem t

/-- The addresses of each register (10 R46 to R65). -/
def Csr.addresses : Csr → List Nat
  | .mstatus => [0x300]
  | .mstatush => [0x310]
  | .misa => [0x301]
  | .mie => [0x304]
  | .mip => [0x344]
  | .mtvec => [0x305]
  | .mscratch => [0x340]
  | .mepc => [0x341]
  | .mcause => [0x342]
  | .mtval => [0x343]
  | .mcounteren => [0x306]
  | .mcountinhibit => [0x320]
  | .mcycle => [0xb00]
  | .mcycleh => [0xb80]
  | .minstret => [0xb02]
  | .minstreth => [0xb82]
  | .cycle => [0xc00]
  | .cycleh => [0xc80]
  | .instret => [0xc02]
  | .instreth => [0xc82]
  | .time => [0xc01]
  | .timeh => [0xc81]
  | .hpm => List.range' 0xb03 29 ++ List.range' 0xb83 29 ++ List.range' 0x323 29
  | .pmpcfg k => [0x3a0 + k.val]
  | .pmpaddr n => [0x3b0 + n.val]
  | .mvendorid => [0xf11]
  | .marchid => [0xf12]
  | .mimpid => [0xf13]
  | .mhartid => [0xf14]
  | .mconfigptr => [0xf15]
  | .trigger => [0x7a0, 0x7a1, 0x7a2, 0x7a4]
  | .custom => List.range' 0xbc0 64

/-- The address is that of the register c, which is not a custom one, the platform has it, and the running hart may access it at its
privilege level: in U-mode one whose bits 9:8 are 0 and, of a counter, one that mcounteren enables (49 R405 (2), 10 R45, R57). -/
def State.mayAccess (s : State) (a : CsrAddr) (c : Csr) : Prop :=
  a.toNat ∈ c.addresses ∧ s.plat.csrAbsent.contains a = false ∧ c ≠ .custom ∧
    (s.hart.priv = .user → a.extractLsb' 8 2 = 0#2 ∧
      (c = .cycle ∨ c = .cycleh → s.hart.mcounteren.getLsbD 0 = true) ∧
      (c = .time ∨ c = .timeh → s.hart.mcounteren.getLsbD 1 = true) ∧
      (c = .instret ∨ c = .instreth → s.hart.mcounteren.getLsbD 2 = true))

/-! ### The invariant -/

/-- What holds of a hart in every state that a run reaches: the reserved bits read as the spec says, bit 0 of the pc is 0 (10 R37), and
MPRV is clear in U-mode (49 R415). -/
def Hart.Inv (plat : Platform) (h : Hart) : Prop :=
  h.pc.getLsbD 0 = false ∧ h.mepc.getLsbD 0 = false ∧ h.mtvec.getLsbD 1 = false ∧ h.mie &&& ~~~ 0x888#32 = 0#32 ∧
    h.mcause &&& ~~~ 0x8000000f#32 = 0#32 ∧ h.mcounteren &&& ~~~ 7#32 = 0#32 ∧ h.mcountinhibit &&& ~~~ 5#32 = 0#32 ∧
    (h.priv = .user → h.mstatus.mprv = false) ∧
    (∀ n : Fin 16, h.pmpcfg[n] &&& 0x60#8 = 0#8 ∧ pmpReserved plat.pmpGrain h.pmpcfg[n] = false)

/-- What holds of every state that a run reaches: memory in its canonical form, both harts as above, and two harts with two numbers
(10 R56). -/
def State.Inv (s : State) : Prop :=
  s.mem.wf = true ∧ s.hart.Inv s.plat ∧ s.other.Inv s.plat ∧ s.hart.id ≠ s.other.id

end Sys2Proof.Machine
end

