-- ==== Sys2Proof/Certificates/Slice0/Obligations.lean ====
section
/-!
DEFINITION. The statements for the provers, in the order of OBLIGATIONS.json. Each says what the machine does by the spec's own
operations on words, bits and bytes; a docstring names the rules of spec/ that it rests on.
-/

open Sys2Proof Sys2Proof.Machine

/-! ### Encoding -/

/-- Decoding the code of a well-formed 32-bit instruction gives the instruction back (30 R122 to R129). -/
def Obligations.DecodeOfEncodeLong : Prop :=
  ∀ i : Instr, i.wf = true → i.length = 4 → decode (encode i) = .ok i

/-- Decoding the code of a well-formed 16-bit instruction gives the instruction back (30 R124 to R130). -/
def Obligations.DecodeOfEncodeShort : Prop :=
  ∀ i : Instr, i.wf = true → i.length = 2 → decode (encode i) = .ok i

/-- What decoding gives is well-formed, its code is the code that was decoded, and its length is that of the code: no
bit of a code is lost, and no code has two readings (30 R121 to R130). -/
def Obligations.EncodeOfDecode : Prop :=
  ∀ (c : Code) (i : Instr), decode c = .ok i →
    i.wf = true ∧ encode i = c ∧ i.length = (match c with | .half _ => 2 | .word _ => 4)

/-- Words of the spec's examples decode to the instructions that they are examples of: nine from Example lines (40 R171, 42
R226, 43 R241, 44 R272, 45 R288, 46 R333, 47 R363, 48 R385, 49 R408), and the bne of vector V43 (spec/96). -/
def Obligations.ExampleWordsDecode : Prop :=
  decode (.word 0x00c58533) = .ok (.add 10 11 12) ∧
  decode (.word 0xfeb51ce3) = .ok (.bne 10 11 (-8)) ∧
  decode (.word 0x0025a503) = .ok (.lw 10 11 2) ∧
  decode (.word 0x02c5c533) = .ok (.div 10 11 12) ∧
  decode (.word 0x18c5a52f) = .ok (.scW 10 11 12 false false) ∧
  decode (.half 0x2ffd) = .ok (.cJal 0x7fe) ∧
  decode (.word 0x2875d513) = .ok (.orcB 10 11) ∧
  decode (.word 0x08f5d513) = .ok (.unzip 10 11) ∧
  decode (.half 0xb866) = .ok (.cmPush 6 1) ∧
  decode (.word 0x34202573) = .ok (.csrrs 10 0x342 0)

/-- The encodings that the spec calls reserved stand for no instruction (30 R132). -/
def Obligations.ReservedEncodingsRejected : Prop :=
  Rejected (.half 0x0000) ∧
  (∀ rd : CReg, Rejected (.half (mkHalf 0b000 0 0 0 0 rd 0b00))) ∧
  (∀ rd : RegIdx, Rejected (.half (encodeCI 0b011 0 rd 0b01))) ∧
  (∀ imm : BitVec 6, Rejected (.half (encodeCI 0b010 imm 0 0b10))) ∧
  Rejected (.half 0x8002) ∧
  (∀ (rd : RegIdx) (n : BitVec 5), Rejected (.half (encodeCI 0b000 (1#1 ++ n) rd 0b10))) ∧
  (∀ (rd : CReg) (b65 : BitVec 2) (r42 : BitVec 3),
    Rejected (.half (mkHalf 0b100 1 0b00 rd b65 r42 0b01)) ∧ Rejected (.half (mkHalf 0b100 1 0b01 rd b65 r42 0b01))) ∧
  (∀ (f2 b98 : BitVec 2) (rlist : BitVec 4) (spimm : BitVec 2), rlist.toNat < 4 → f2 = 2 ∨ f2 = 3 →
    Rejected (.half (encodeCMPP f2 b98 rlist spimm))) ∧
  (∀ r : SReg, Rejected (.half (mkHalf 0b101 0 0b11 r 0b01 r 0b10))) ∧
  (∀ (rs1 rs2 : CReg) (uimm : BitVec 2), Rejected (.half (encodeCHalf 0b11 1 uimm rs1 rs2))) ∧
  (∀ (f7 : BitVec 7) (shamt rs1 rd : RegIdx), f7.getLsbD 0 = true →
    Rejected (.word (mkWord f7 shamt rs1 0b001 rd 0b0010011)) ∧ Rejected (.word (mkWord f7 shamt rs1 0b101 rd 0b0010011))) ∧
  (∀ (aq rl : Bool) (rs2 rs1 rd : RegIdx), rs2 ≠ 0 → Rejected (.word (encodeAtomic 0b00010 aq rl rs2 rs1 rd)))

/-- Every register list and stack adjustment of Zcmp, as the spec's table has them; the values 0 to 3 of rlist are reserved:
every push or pop with one stands for no instruction (30 R136). -/
def Obligations.ZcmpRegisterLists : Prop :=
  registerList 4 = [1] ∧ registerList 5 = [1, 8] ∧ registerList 6 = [1, 8, 9] ∧ registerList 7 = [1, 8, 9, 18] ∧
  registerList 8 = [1, 8, 9, 18, 19] ∧ registerList 9 = [1, 8, 9, 18, 19, 20] ∧
  registerList 10 = [1, 8, 9, 18, 19, 20, 21] ∧ registerList 11 = [1, 8, 9, 18, 19, 20, 21, 22] ∧
  registerList 12 = [1, 8, 9, 18, 19, 20, 21, 22, 23] ∧ registerList 13 = [1, 8, 9, 18, 19, 20, 21, 22, 23, 24] ∧
  registerList 14 = [1, 8, 9, 18, 19, 20, 21, 22, 23, 24, 25] ∧
  registerList 15 = [1, 8, 9, 18, 19, 20, 21, 22, 23, 24, 25, 26, 27] ∧
  (∀ rlist : BitVec 4, ∀ spimm : BitVec 2, 4 ≤ rlist.toNat →
    (stackAdjust rlist spimm).toNat = (4 * (registerList rlist).length + 15) / 16 * 16 + 16 * spimm.toNat) ∧
  (∀ (f2 b98 : BitVec 2) (rlist : BitVec 4) (spimm : BitVec 2), rlist.toNat < 4 → f2 = 2 ∨ f2 = 3 →
    Rejected (.half (encodeCMPP f2 b98 rlist spimm)))

/-! ### Steps -/

/-- Where no interrupt is taken, for want of one or put off (log 29), the checks of the fetch pass, memory answers and no device,
the hart's fetches may see no old byte there, and the bytes at the pc decode to i, a step is `exec i`, and then the move to
the next step (00 R11, 20 R85, R86). What runs of a code that a fetch sees otherwise is said by `FetchAndDecodeTraps`. -/
def Obligations.StepRunsDecodedInstruction : Prop :=
  ∀ (s : State) (i : Instr), s.pendingInterrupt = none ∨ s.inputs.interruptDeferred = true → s.fetchVerdict s.hart.pc = .allowed →
    s.plat.isDevice s.hart.pc = false →
    (isLong (s.mem.read16 s.hart.pc) = true →
      s.hart.pc + 2 ≠ 0 ∧ s.fetchVerdict (s.hart.pc + 2) = .allowed ∧ s.plat.isDevice (s.hart.pc + 2) = false) →
    (∀ k, k < i.length → s.hart.heldValues (s.hart.pc + BitVec.ofNat 32 k).toNat = []) →
    decode (Code.ofParcels (s.mem.read16 s.hart.pc) (s.mem.read16 (s.hart.pc + 2))) = .ok i →
    step s = advanced (exec i s)

/-- The move to the next step: memory and parameters stay, the inputs are used up, the two harts change places where
`turns` says so, and neither hart changes but for the running hart's mcycle, which has the value that the input gives
unless mcountinhibit.CY stops it (10 R58, R59; log 1, log 3, log 9: the turns and the inputs are the model's own). -/
def Obligations.AdvanceBetweenSteps : Prop :=
  ∀ s : State, ∃ h : Hart,
    h = { s.hart with mcycle := if s.hart.mcountinhibit.getLsbD 0 then s.hart.mcycle else s.inputs.cycle } ∧
    s.advance.mem = s.mem ∧ s.advance.plat = s.plat ∧ s.advance.script = s.script.tail ∧ s.advance.now = s.now + 1 ∧
    s.advance.turns = s.turns.tail ∧
    (s.turns.head? = some true → s.advance.hart = s.other ∧ s.advance.other = h) ∧
    (s.turns.head? ≠ some true → s.advance.hart = h ∧ s.advance.other = s.other)

/-- An interrupt is to be taken before the next instruction exactly where it is pending, enabled in mie, and interrupts are
enabled: in U-mode always, in M-mode by mstatus.MIE; external before software before timer. mcause is 0x80000000 with
the code 11, 3 or 7 (60 R441, R442). The step takes it instead of the instruction, unless the free input puts it off to a
later boundary, which 60 R443 and 92 D13 allow (the input is the model's, log 29). -/
def Obligations.InterruptsTaken : Prop :=
  ∀ s : State,
    let on := s.hart.priv = .user ∨ s.hart.mstatus.mie = true
    let external := s.hart.mie.getLsbD 11 = true ∧ (csrRead .mip s).getLsbD 11 = true
    let software := s.hart.mie.getLsbD 3 = true ∧ (csrRead .mip s).getLsbD 3 = true
    let timer := s.hart.mie.getLsbD 7 = true ∧ (csrRead .mip s).getLsbD 7 = true
    (s.pendingInterrupt = some .external ↔ on ∧ external) ∧
    (s.pendingInterrupt = some .software ↔ on ∧ ¬ external ∧ software) ∧
    (s.pendingInterrupt = some .timer ↔ on ∧ ¬ external ∧ ¬ software ∧ timer) ∧
    (s.pendingInterrupt = none ↔ ¬ (on ∧ (external ∨ software ∨ timer))) ∧
    (s.inputs.interruptDeferred = true → step s = advanced (runInstruction s)) ∧
    (s.inputs.interruptDeferred = false → s.pendingInterrupt = none → step s = advanced (runInstruction s)) ∧
    (∀ irq, s.pendingInterrupt = some irq →
      (s.inputs.interruptDeferred = false → step s = .next (enterTrap (.interrupt irq) s).advance) ∧
      (enterTrap (.interrupt irq) s).hart.mcause =
        0x80000000 ||| (match irq with | .external => 11 | .software => 3 | .timer => 7) ∧
      (enterTrap (.interrupt irq) s).hart.mepc = s.hart.pc)

/-- A fetch that protection or the bus turns down, on either parcel, raises cause 1 with the pc of the instruction in
mepc; a second parcel that would wrap to address 0 stops the model (log 27). Of a fetch that passes, the code that it sees
runs: a code that stands for no instruction raises cause 2, and one that decodes to i does what `exec i` does, but for a
branch with a stored byte (20 R86, R113, 10 R38, 30 R131). A step that takes no interrupt does this. -/
def Obligations.FetchAndDecodeTraps : Prop :=
  ∀ (s : State) (i : Instr),
    let first := isLong (s.fetchParcel 0 s.hart.pc)
    let denied := fun a => pmpAllows s.plat s.hart s.hart.priv .execute a = false ∨ s.plat.busFault .fetch a = true
    let passes := ¬ denied s.hart.pc ∧ (first = true → s.hart.pc + 2 ≠ 0 ∧ ¬ denied (s.hart.pc + 2))
    let seen := Code.ofParcels (s.fetchParcel 0 s.hart.pc) (s.fetchParcel 2 (s.hart.pc + 2))
    (denied s.hart.pc → Raises (runInstruction s) s 1) ∧
    (¬ denied s.hart.pc → first = true → s.hart.pc + 2 ≠ 0 → denied (s.hart.pc + 2) → Raises (runInstruction s) s 1) ∧
    (¬ denied s.hart.pc → first = true → s.hart.pc + 2 = 0 → runInstruction s = .fault .fetchWraps) ∧
    (passes → Rejected seen → Raises (runInstruction s) s 2) ∧
    (passes → decode seen = .ok i → s.runsStaleBranch i = false → runInstruction s = exec i s) ∧
    (passes → decode seen = .ok i → s.runsStaleBranch i = true → runInstruction s = .fault .staleBranch) ∧
    (s.takenInterrupt = none → step s = advanced (runInstruction s))

/-- A fetch of a byte of memory sees what memory holds, or a value that the byte held since the hart's last fence.i, and for
each of these some inputs choose it; outside the set W it sees what memory holds (20 R110; the choice by inputs is the
model's, log 25). A parcel is two such bytes, the one at the lower address less significant (20 R85), or what the device
there answers, which is an input (log 13). -/
def Obligations.FetchSeesHeldValues : Prop :=
  ∀ (s : State) (k : Nat) (a : Word),
    (s.hart.heldValues a.toNat = [] → s.fetchByte k a = s.mem.read8 a) ∧
    s.fetchByte k a ∈ s.mem.read8 a :: s.hart.heldValues a.toNat ∧
    (∀ v ∈ s.mem.read8 a :: s.hart.heldValues a.toNat, ∃ x : Inputs, State.fetchByte { s with script := x :: s.script } k a = v) ∧
    (s.plat.isDevice a = false → s.fetchParcel k a = s.fetchByte (k + 1) (a + 1) ++ s.fetchByte k a) ∧
    (s.plat.isDevice a = true → s.fetchParcel k a = (s.inputs.deviceCode >>> (8 * k)).setWidth 16)

/-- Running a conditional branch of whose bytes one has been stored since the hart's last fence.i stops the machine (20
R113). -/
def Obligations.StaleBranchStops : Prop :=
  ∀ (s : State) (c : Code) (i : Instr) (k : Nat), decode c = .ok i → i.isConditionalBranch = true → k < i.length →
    s.hart.heldValues (s.hart.pc + BitVec.ofNat 32 k).toNat ≠ [] → runCode c s = .fault .staleBranch

/-! ### Registers -/

/-- x0 reads 0, a write to it changes nothing, and it reads 0 after every instruction (10 R32). -/
def Obligations.ZeroRegister : Prop :=
  (∀ s : State, s.reg 0 = 0) ∧ (∀ (s : State) (v : Word), s.setReg 0 v = s) ∧
  (∀ (i : Instr) (s t : State), exec i s = .next t → t.reg 0 = 0)

/-! ### Integer computation (40) -/

/-- The ten register-register instructions (40 R171 to R180). -/
def Obligations.RegisterArithmetic : Prop :=
  ∀ (s : State) (rd rs1 rs2 : RegIdx),
    Computes (.add rd rs1 rs2) s rd (s.reg rs1 + s.reg rs2) ∧
    Computes (.sub rd rs1 rs2) s rd (s.reg rs1 - s.reg rs2) ∧
    Computes (.and rd rs1 rs2) s rd (s.reg rs1 &&& s.reg rs2) ∧
    Computes (.or rd rs1 rs2) s rd (s.reg rs1 ||| s.reg rs2) ∧
    Computes (.xor rd rs1 rs2) s rd (s.reg rs1 ^^^ s.reg rs2) ∧
    Computes (.sll rd rs1 rs2) s rd (s.reg rs1 <<< ((s.reg rs2).toNat % 32)) ∧
    Computes (.srl rd rs1 rs2) s rd (s.reg rs1 >>> ((s.reg rs2).toNat % 32)) ∧
    Computes (.sra rd rs1 rs2) s rd ((s.reg rs1).sshiftRight ((s.reg rs2).toNat % 32)) ∧
    Computes (.slt rd rs1 rs2) s rd (if (s.reg rs1).toInt < (s.reg rs2).toInt then 1 else 0) ∧
    Computes (.sltu rd rs1 rs2) s rd (if (s.reg rs1).toNat < (s.reg rs2).toNat then 1 else 0)

/-- The register-immediate instructions, the shifts by a constant, lui and auipc (40 R182 to R193). -/
def Obligations.ImmediateArithmetic : Prop :=
  ∀ (s : State) (rd rs1 : RegIdx) (imm : BitVec 12) (shamt : BitVec 5) (upper : BitVec 20),
    Computes (.addi rd rs1 imm) s rd (s.reg rs1 + imm.signExtend 32) ∧
    Computes (.andi rd rs1 imm) s rd (s.reg rs1 &&& imm.signExtend 32) ∧
    Computes (.ori rd rs1 imm) s rd (s.reg rs1 ||| imm.signExtend 32) ∧
    Computes (.xori rd rs1 imm) s rd (s.reg rs1 ^^^ imm.signExtend 32) ∧
    Computes (.slti rd rs1 imm) s rd (if (s.reg rs1).toInt < imm.toInt then 1 else 0) ∧
    Computes (.sltiu rd rs1 imm) s rd (if (s.reg rs1).toNat < (imm.signExtend 32).toNat then 1 else 0) ∧
    Computes (.slli rd rs1 shamt) s rd (s.reg rs1 <<< shamt.toNat) ∧
    Computes (.srli rd rs1 shamt) s rd (s.reg rs1 >>> shamt.toNat) ∧
    Computes (.srai rd rs1 shamt) s rd ((s.reg rs1).sshiftRight shamt.toNat) ∧
    Computes (.lui rd upper) s rd (upper ++ 0#12) ∧
    Computes (.auipc rd upper) s rd (s.hart.pc + (upper ++ 0#12))

/-! ### Control transfer (41) -/

/-- The six branches: to pc + offset where the comparison holds, else to pc + 4, and nothing else changes (41 R201 to
R206). -/
def Obligations.Branches : Prop :=
  ∀ (s : State) (rs1 rs2 : RegIdx) (offset : BitVec 13),
    let goes := fun (taken : Prop) [Decidable taken] =>
      if taken then s.hart.pc + offset.signExtend 32 else s.hart.pc + 4
    WritesRegs (exec (.beq rs1 rs2 offset) s) s s.reg (goes (s.reg rs1 = s.reg rs2)) ∧
    WritesRegs (exec (.bne rs1 rs2 offset) s) s s.reg (goes (s.reg rs1 ≠ s.reg rs2)) ∧
    WritesRegs (exec (.blt rs1 rs2 offset) s) s s.reg (goes ((s.reg rs1).toInt < (s.reg rs2).toInt)) ∧
    WritesRegs (exec (.bge rs1 rs2 offset) s) s s.reg (goes ((s.reg rs1).toInt ≥ (s.reg rs2).toInt)) ∧
    WritesRegs (exec (.bltu rs1 rs2 offset) s) s s.reg (goes ((s.reg rs1).toNat < (s.reg rs2).toNat)) ∧
    WritesRegs (exec (.bgeu rs1 rs2 offset) s) s s.reg (goes ((s.reg rs1).toNat ≥ (s.reg rs2).toNat))

/-- jal and jalr: rd gets the address after the instruction; jalr takes its target from the old rs1 and clears bit 0 (41
R207, R208). -/
def Obligations.Jumps : Prop :=
  ∀ (s : State) (rd rs1 : RegIdx) (offset : BitVec 21) (imm : BitVec 12),
    WritesReg (exec (.jal rd offset) s) s rd (s.hart.pc + 4) (s.hart.pc + offset.signExtend 32) ∧
    WritesReg (exec (.jalr rd rs1 imm) s) s rd (s.hart.pc + 4) ((s.reg rs1 + imm.signExtend 32) &&& 0xfffffffe)

/-! ### Loads and stores (42, 45, 48) -/

/-- The five loads, where the access passes its checks (42 R222 to R226). What is read is the bytes of memory, or what the device
at the address answers, which is an input (log 13). -/
def Obligations.Loads : Prop :=
  ∀ (s : State) (rd rs1 : RegIdx) (imm : BitVec 12),
    let a := s.reg rs1 + imm.signExtend 32
    (s.canLoad 1 a → Computes (.lb rd rs1 imm) s rd ((s.byteRead a).signExtend 32) ∧
      Computes (.lbu rd rs1 imm) s rd ((s.byteRead a).setWidth 32)) ∧
    (s.canLoad 2 a → Computes (.lh rd rs1 imm) s rd ((s.halfRead a).signExtend 32) ∧
      Computes (.lhu rd rs1 imm) s rd ((s.halfRead a).setWidth 32)) ∧
    (s.canLoad 4 a → Computes (.lw rd rs1 imm) s rd (s.wordRead a))

/-- The three stores, where the access passes its checks: the stored bytes, and every other byte as before (42 R227 to
R229; 20 R93, R111). At a device memory stays as it is, and the rest of the instruction is the same (log 13). -/
def Obligations.Stores32 : Prop :=
  ∀ (s : State) (rs1 rs2 : RegIdx) (imm : BitVec 12),
    let a := s.reg rs1 + imm.signExtend 32
    (s.canStore 1 a → Stores (.sb rs1 rs2 imm) s a (s.reg rs2) 1) ∧
    (s.canStore 2 a → Stores (.sh rs1 rs2 imm) s a (s.reg rs2) 2) ∧
    (s.canStore 4 a → Stores (.sw rs1 rs2 imm) s a (s.reg rs2) 4)

/-- The 16-bit loads, where the access passes its checks, of memory or of a device (45 R284, R303; 48 R371 to R373; log 13). -/
def Obligations.CompressedLoads : Prop :=
  ∀ (s : State) (rd rs1 : CReg) (r : RegIdx) (word : BitVec 7) (stack : BitVec 8) (near : BitVec 2),
    let a := s.reg (8#5 + rs1.setWidth 5) + near.setWidth 32
    let w := s.reg (8#5 + rs1.setWidth 5) + word.setWidth 32
    let p := s.reg 2 + stack.setWidth 32
    (s.canLoad 1 a → Computes (.cLbu rd rs1 near) s (8#5 + rd.setWidth 5) ((s.byteRead a).setWidth 32)) ∧
    (s.canLoad 2 a → Computes (.cLhu rd rs1 near) s (8#5 + rd.setWidth 5) ((s.halfRead a).setWidth 32) ∧
      Computes (.cLh rd rs1 near) s (8#5 + rd.setWidth 5) ((s.halfRead a).signExtend 32)) ∧
    (s.canLoad 4 w → Computes (.cLw rd rs1 word) s (8#5 + rd.setWidth 5) (s.wordRead w)) ∧
    (s.canLoad 4 p → Computes (.cLwsp r stack) s r (s.wordRead p))

/-- The 16-bit stores, where the access passes its checks, to memory or to a device (45 R285, R309; 48 R374, R375; log 13). -/
def Obligations.CompressedStores : Prop :=
  ∀ (s : State) (rs1 rs2 : CReg) (r : RegIdx) (word : BitVec 7) (stack : BitVec 8) (near : BitVec 2),
    let a := s.reg (8#5 + rs1.setWidth 5) + near.setWidth 32
    let w := s.reg (8#5 + rs1.setWidth 5) + word.setWidth 32
    let p := s.reg 2 + stack.setWidth 32
    (s.canStore 1 a → Stores (.cSb rs1 rs2 near) s a (s.reg (8#5 + rs2.setWidth 5)) 1) ∧
    (s.canStore 2 a → Stores (.cSh rs1 rs2 near) s a (s.reg (8#5 + rs2.setWidth 5)) 2) ∧
    (s.canStore 4 w → Stores (.cSw rs1 rs2 word) s w (s.reg (8#5 + rs2.setWidth 5)) 4) ∧
    (s.canStore 4 p → Stores (.cSwsp r stack) s p (s.reg r) 4)

/-- An access that is not naturally aligned raises before anything else happens: cause 4 for every load and lr.w, cause
6 for every store, sc.w and AMO, also where the address would fault (20 R88, R89, R90). -/
def Obligations.MisalignedAccessesTrap : Prop :=
  ∀ (s : State) (rd rs1 rs2 : RegIdx) (imm : BitVec 12) (cd c1 c2 : CReg) (word : BitVec 7) (stack : BitVec 8)
    (near : BitVec 2) (aq rl : Bool) (rlist : BitVec 4) (spimm : BitVec 2),
    let a := s.reg rs1 + imm.signExtend 32
    let cw := s.reg (8#5 + c1.setWidth 5) + word.setWidth 32
    let cn := s.reg (8#5 + c1.setWidth 5) + near.setWidth 32
    let p := s.reg 2 + stack.setWidth 32
    (a.toNat % 2 ≠ 0 → Raises (exec (.lh rd rs1 imm) s) s 4 ∧ Raises (exec (.lhu rd rs1 imm) s) s 4 ∧
      Raises (exec (.sh rs1 rs2 imm) s) s 6) ∧
    (a.toNat % 4 ≠ 0 → Raises (exec (.lw rd rs1 imm) s) s 4 ∧ Raises (exec (.sw rs1 rs2 imm) s) s 6) ∧
    (cn.toNat % 2 ≠ 0 → Raises (exec (.cLh cd c1 near) s) s 4 ∧ Raises (exec (.cLhu cd c1 near) s) s 4 ∧
      Raises (exec (.cSh c1 c2 near) s) s 6) ∧
    (cw.toNat % 4 ≠ 0 → Raises (exec (.cLw cd c1 word) s) s 4 ∧ Raises (exec (.cSw c1 c2 word) s) s 6) ∧
    (p.toNat % 4 ≠ 0 → Raises (exec (.cLwsp rd stack) s) s 4 ∧ Raises (exec (.cSwsp rs2 stack) s) s 6) ∧
    ((s.reg 2).toNat % 4 ≠ 0 → Raises (exec (.cmPush rlist spimm) s) s 6 ∧ Raises (exec (.cmPop rlist spimm) s) s 4 ∧
      Raises (exec (.cmPopret rlist spimm) s) s 4 ∧ Raises (exec (.cmPopretz rlist spimm) s) s 4) ∧
    ((s.reg rs1).toNat % 4 ≠ 0 →
      Raises (exec (.lrW rd rs1 aq rl) s) s 4 ∧ Raises (exec (.scW rd rs1 rs2 aq rl) s) s 6 ∧
      Raises (exec (.amoaddW rd rs1 rs2 aq rl) s) s 6 ∧ Raises (exec (.amoandW rd rs1 rs2 aq rl) s) s 6 ∧
      Raises (exec (.amoorW rd rs1 rs2 aq rl) s) s 6 ∧ Raises (exec (.amoxorW rd rs1 rs2 aq rl) s) s 6 ∧
      Raises (exec (.amoswapW rd rs1 rs2 aq rl) s) s 6 ∧ Raises (exec (.amomaxW rd rs1 rs2 aq rl) s) s 6 ∧
      Raises (exec (.amomaxuW rd rs1 rs2 aq rl) s) s 6 ∧ Raises (exec (.amominW rd rs1 rs2 aq rl) s) s 6 ∧
      Raises (exec (.amominuW rd rs1 rs2 aq rl) s) s 6)

/-- An aligned access that protection or the bus turns down raises cause 5 for a load and lr.w, cause 7 for a store,
sc.w and an AMO; an AMO at an address without exclusive access raises 7 too. No register and no byte of memory changes
(20 R91, R92; 44 R260, R271, R272). Protection is asked at the level of mstatus.MPP where MPRV is set, else at the current
one (10 R46, 20 R96). -/
def Obligations.AccessFaultsTrap : Prop :=
  ∀ (s : State) (rd rs1 rs2 : RegIdx) (imm : BitVec 12) (cd c1 c2 : CReg) (word : BitVec 7) (stack : BitVec 8)
    (near : BitVec 2) (aq rl : Bool),
    let a := s.reg rs1 + imm.signExtend 32
    let cw := s.reg (8#5 + c1.setWidth 5) + word.setWidth 32
    let cn := s.reg (8#5 + c1.setWidth 5) + near.setWidth 32
    let p := s.reg 2 + stack.setWidth 32
    let x := s.reg rs1
    let level := if s.hart.mstatus.mprv = true then s.hart.mstatus.mpp else s.hart.priv
    let denied := fun (kind : PmpKind) (a : Word) => pmpAllows s.plat s.hart level kind a = false
    let loadFault := fun a : Word => denied .read a ∨ s.plat.busFault .load a = true
    let storeFault := fun a : Word => denied .write a ∨ s.plat.busFault .store a = true
    (loadFault a → Raises (exec (.lb rd rs1 imm) s) s 5 ∧ Raises (exec (.lbu rd rs1 imm) s) s 5 ∧
      (a.toNat % 2 = 0 → Raises (exec (.lh rd rs1 imm) s) s 5 ∧ Raises (exec (.lhu rd rs1 imm) s) s 5) ∧
      (a.toNat % 4 = 0 → Raises (exec (.lw rd rs1 imm) s) s 5)) ∧
    (storeFault a → Raises (exec (.sb rs1 rs2 imm) s) s 7 ∧
      (a.toNat % 2 = 0 → Raises (exec (.sh rs1 rs2 imm) s) s 7) ∧
      (a.toNat % 4 = 0 → Raises (exec (.sw rs1 rs2 imm) s) s 7)) ∧
    (loadFault cn → Raises (exec (.cLbu cd c1 near) s) s 5 ∧
      (cn.toNat % 2 = 0 → Raises (exec (.cLhu cd c1 near) s) s 5 ∧ Raises (exec (.cLh cd c1 near) s) s 5)) ∧
    (storeFault cn → Raises (exec (.cSb c1 c2 near) s) s 7 ∧
      (cn.toNat % 2 = 0 → Raises (exec (.cSh c1 c2 near) s) s 7)) ∧
    (loadFault cw → cw.toNat % 4 = 0 → Raises (exec (.cLw cd c1 word) s) s 5) ∧
    (storeFault cw → cw.toNat % 4 = 0 → Raises (exec (.cSw c1 c2 word) s) s 7) ∧
    (loadFault p → p.toNat % 4 = 0 → Raises (exec (.cLwsp rd stack) s) s 5) ∧
    (storeFault p → p.toNat % 4 = 0 → Raises (exec (.cSwsp rs2 stack) s) s 7) ∧
    (x.toNat % 4 = 0 →
      (denied .read x ∨ s.plat.busFault .exclusive x = true → Raises (exec (.lrW rd rs1 aq rl) s) s 5) ∧
      (denied .write x ∨ s.plat.busFault .exclusive x = true → Raises (exec (.scW rd rs1 rs2 aq rl) s) s 7) ∧
      (denied .readWrite x ∨ s.plat.busFault .exclusive x = true ∨ s.plat.supportsExclusive x = false →
        Raises (exec (.amoaddW rd rs1 rs2 aq rl) s) s 7 ∧ Raises (exec (.amoandW rd rs1 rs2 aq rl) s) s 7 ∧
        Raises (exec (.amoorW rd rs1 rs2 aq rl) s) s 7 ∧ Raises (exec (.amoxorW rd rs1 rs2 aq rl) s) s 7 ∧
        Raises (exec (.amoswapW rd rs1 rs2 aq rl) s) s 7 ∧ Raises (exec (.amomaxW rd rs1 rs2 aq rl) s) s 7 ∧
        Raises (exec (.amomaxuW rd rs1 rs2 aq rl) s) s 7 ∧ Raises (exec (.amominW rd rs1 rs2 aq rl) s) s 7 ∧
        Raises (exec (.amominuW rd rs1 rs2 aq rl) s) s 7))

/-- Where the spec has a model refuse, it refuses by name: a push or pop of which one access, after others that reach memory,
passes its checks and reaches a device (93 item 33: "device side effects repeated on restart: refuse"; log 13), and a CSR
instruction that names a custom register in M-mode (10 R65; log 20). -/
def Obligations.UnspecifiedUnitsRefused : Prop :=
  ∀ (s : State) (rd rs1 : RegIdx) (csr : CsrAddr) (uimm : BitVec 5) (rlist : BitVec 4) (spimm : BitVec 2) (j : Nat),
    let top := s.reg 2 + stackAdjust rlist spimm
    (j < (registerList rlist).length →
      (s.canPush j → s.canStore 4 (slot (s.reg 2) j) → s.plat.isDevice (slot (s.reg 2) j) = true →
        exec (.cmPush rlist spimm) s = .refused .zcmpAtDevice) ∧
      (s.canPop top j → s.canLoad 4 (slot top j) → s.plat.isDevice (slot top j) = true →
        ∀ i ∈ [Instr.cmPop rlist spimm, .cmPopret rlist spimm, .cmPopretz rlist spimm],
          exec i s = .refused .zcmpAtDevice)) ∧
    (0xbc0 ≤ csr.toNat ∧ csr.toNat ≤ 0xbff → s.plat.csrAbsent.contains csr = false → s.hart.priv = .machine →
      ∀ i ∈ [Instr.csrrw rd csr rs1, .csrrs rd csr rs1, .csrrc rd csr rs1, .csrrwi rd csr uimm, .csrrsi rd csr uimm,
        .csrrci rd csr uimm], exec i s = .refused .customCsr)

/-- After four bytes are written little-endian at an aligned address of memory, each byte, each halfword and the word read back as
their part of the value (20 R83, R84). -/
def Obligations.MixedWidthsAgree : Prop :=
  ∀ (s : State) (a v : Word), a.toNat % 4 = 0 → s.plat.isDevice a = false →
    (∀ k, k < 4 → ((s.store32 a v).mem.byteAt (a.toNat + k)) = (v >>> (8 * k)).setWidth 8) ∧
    (s.store32 a v).mem.read16 a = v.extractLsb' 0 16 ∧ (s.store32 a v).mem.read16 (a + 2) = v.extractLsb' 16 16 ∧
    (s.store32 a v).mem.read32 a = v ∧ (s.store32 a v).load32 a = v

/-! ### Multiplication and division (43) -/

/-- mul gives the low word of the product, the other three the high word of the exact product of the operands as they
read them (43 R243 to R246). -/
def Obligations.Multiplications : Prop :=
  ∀ (s : State) (rd rs1 rs2 : RegIdx),
    let a := s.reg rs1
    let b := s.reg rs2
    Computes (.mul rd rs1 rs2) s rd (BitVec.ofNat 32 (a.toNat * b.toNat)) ∧
    Computes (.mulh rd rs1 rs2) s rd (BitVec.ofInt 32 (a.toInt * b.toInt / 2 ^ 32)) ∧
    Computes (.mulhsu rd rs1 rs2) s rd (BitVec.ofInt 32 (a.toInt * (b.toNat : Int) / 2 ^ 32)) ∧
    Computes (.mulhu rd rs1 rs2) s rd (BitVec.ofNat 32 (a.toNat * b.toNat / 2 ^ 32))

/-- Quotients round towards zero and remainders have the sign of the dividend; division by zero and the overflowing
quotient give the values of the spec and raise nothing (43 R241, R242, R247, R248). -/
def Obligations.Divisions : Prop :=
  ∀ (s : State) (rd rs1 rs2 : RegIdx),
    let a := s.reg rs1
    let b := s.reg rs2
    Computes (.div rd rs1 rs2) s rd
      (if b = 0 then 0xffffffff else if a = 0x80000000 ∧ b = 0xffffffff then 0x80000000
        else BitVec.ofInt 32 (a.toInt.tdiv b.toInt)) ∧
    Computes (.rem rd rs1 rs2) s rd
      (if b = 0 then a else if a = 0x80000000 ∧ b = 0xffffffff then 0 else BitVec.ofInt 32 (a.toInt.tmod b.toInt)) ∧
    Computes (.divu rd rs1 rs2) s rd (if b = 0 then 0xffffffff else a / b) ∧
    Computes (.remu rd rs1 rs2) s rd (if b = 0 then a else a % b)

/-! ### Atomics (44) -/

/-- The nine AMOs at an address that supports exclusive access: rd gets the old word, memory the new one, and the
monitors end clear; aq and rl change nothing (44 R260 to R270). At a device the old word is what it answers, and memory stays
(log 13). -/
def Obligations.AtomicUpdates : Prop :=
  ∀ (s : State) (rd rs1 rs2 : RegIdx) (aq rl : Bool), s.canUpdate (s.reg rs1) →
    let old := s.wordRead (s.reg rs1)
    let v := s.reg rs2
    let updates := fun (i : Instr) (new : Word) =>
      StoresExclusively (exec i s) s (s.plat.isDevice (s.reg rs1)) (storedByte (s.reg rs1) new 4) (s.regsWith rd old)
        (s.hart.pc + 4)
    updates (.amoaddW rd rs1 rs2 aq rl) (old + v) ∧
    updates (.amoandW rd rs1 rs2 aq rl) (old &&& v) ∧
    updates (.amoorW rd rs1 rs2 aq rl) (old ||| v) ∧
    updates (.amoxorW rd rs1 rs2 aq rl) (old ^^^ v) ∧
    updates (.amoswapW rd rs1 rs2 aq rl) v ∧
    updates (.amomaxW rd rs1 rs2 aq rl) (if old.toInt < v.toInt then v else old) ∧
    updates (.amomaxuW rd rs1 rs2 aq rl) (if old.toNat < v.toNat then v else old) ∧
    updates (.amominW rd rs1 rs2 aq rl) (if old.toInt < v.toInt then old else v) ∧
    updates (.amominuW rd rs1 rs2 aq rl) (if old.toNat < v.toNat then old else v)

/-- lr.w loads the word whatever the global monitor answers; the local monitor says whether the address supports
exclusive access, and then the reservation is of that address (44 R256, R258, R271). Elsewhere the record is cleared: the
model's choice, log 22. The word is that of memory, or what the device at the address answers (log 13). -/
def Obligations.LoadReserved : Prop :=
  ∀ (s : State) (rd rs1 : RegIdx) (aq rl : Bool),
    let a := s.reg rs1
    a.toNat % 4 = 0 → s.permits .read a → s.plat.busFault .exclusive a = false →
    ∃ t, exec (.lrW rd rs1 aq rl) s = .next t ∧ (∀ q, t.reg q = s.regsWith rd (s.wordRead a) q) ∧
      t.hart.pc = s.hart.pc + 4 ∧ t.hart.localMonitor = s.plat.supportsExclusive a ∧
      t.hart.reservation = (if s.plat.supportsExclusive a = true then some a else none) ∧ s.hart.countsOne t.hart ∧
      s.hart.sameControl t.hart ∧ t.hart.stale = s.hart.stale ∧ t.other = s.other ∧ t.mem = s.mem ∧ s.sameSystem t

/-- sc.w past its checks: it stores and gives 0 where both monitors grant it, gives 1 and stores nothing where one of
them does not, at a device too; the local monitor ends clear (44 R257, R259, R272). Without the local monitor it makes no
bus transaction. A granted write to a device leaves memory as it is (log 13). -/
def Obligations.StoreConditional : Prop :=
  ∀ (s : State) (rd rs1 rs2 : RegIdx) (aq rl : Bool),
    let a := s.reg rs1
    a.toNat % 4 = 0 → s.permits .write a → s.plat.busFault .exclusive a = false →
    (s.hart.localMonitor = false → Computes (.scW rd rs1 rs2 aq rl) s rd 1) ∧
    (s.hart.localMonitor = true →
      (∀ r, s.hart.reservation = some r → s.plat.granule r = s.plat.granule a → s.plat.supportsExclusive a = true →
        s.inputs.exclusiveRefused = false →
        StoresExclusively (exec (.scW rd rs1 rs2 aq rl) s) s (s.plat.isDevice a) (storedByte a (s.reg rs2) 4)
          (s.regsWith rd 0) (s.hart.pc + 4)) ∧
      (s.hart.reservedAt s.plat a = false ∨ s.plat.supportsExclusive a = false ∨ s.inputs.exclusiveRefused = true →
        StoresExclusively (exec (.scW rd rs1 rs2 aq rl) s) s false (fun _ => none) (s.regsWith rd 1) (s.hart.pc + 4)))

/-- After an AMO, whether it completes or raises, an sc.w fails: "the sc.w always fails" (44 R260). -/
def Obligations.AmoBreaksReservation : Prop :=
  ∀ (s t : State) (i : Instr) (rd rs1 rs2 : RegIdx) (aq rl : Bool) (sd s1 s2 : RegIdx),
    i ∈ [Instr.amoaddW rd rs1 rs2 aq rl, .amoandW rd rs1 rs2 aq rl, .amoorW rd rs1 rs2 aq rl, .amoxorW rd rs1 rs2 aq rl,
      .amoswapW rd rs1 rs2 aq rl, .amomaxW rd rs1 rs2 aq rl, .amomaxuW rd rs1 rs2 aq rl, .amominW rd rs1 rs2 aq rl,
      .amominuW rd rs1 rs2 aq rl] →
    exec i s = .next t → (t.reg s1).toNat % 4 = 0 → t.permits .write (t.reg s1) →
    t.plat.busFault .exclusive (t.reg s1) = false → Computes (.scW sd s1 s2 aq rl) t sd 1

/-- The instructions that may change the local monitor: lr.w, sc.w, the AMOs, and those that trap, which clear it (10
R42, 44 R255). -/
def Obligations.LocalMonitorWriters : Prop :=
  ∀ (i : Instr) (s t : State), exec i s = .next t → t.hart.localMonitor ≠ s.hart.localMonitor →
    (∃ rd rs1 aq rl, i = .lrW rd rs1 aq rl) ∨
    (t.hart.localMonitor = false ∧
      ((t.hart.mepc = s.hart.pc ∧ t.hart.priv = .machine ∧ t.hart.pc = s.hart.mtvec &&& 0xfffffffc) ∨
        ∃ rd rs1 rs2 aq rl, i ∈ [Instr.scW rd rs1 rs2 aq rl, .amoaddW rd rs1 rs2 aq rl, .amoandW rd rs1 rs2 aq rl,
          .amoorW rd rs1 rs2 aq rl, .amoxorW rd rs1 rs2 aq rl, .amoswapW rd rs1 rs2 aq rl, .amomaxW rd rs1 rs2 aq rl,
          .amomaxuW rd rs1 rs2 aq rl, .amominW rd rs1 rs2 aq rl, .amominuW rd rs1 rs2 aq rl]))

/-! ### Compressed instructions (45, 48) -/

/-- The 16-bit instructions that compute, each as its 32-bit expansion with a length of 2 (45 R283 to R308; 48 R376 to
R381). -/
def Obligations.CompressedArithmetic : Prop :=
  ∀ (s : State) (rd rs2 : RegIdx) (cd c2 : CReg) (imm : BitVec 6) (shamt : BitVec 5) (spn spadj : BitVec 10),
    let d := 8#5 + cd.setWidth 5
    let a := s.reg d
    let b := s.reg (8#5 + c2.setWidth 5)
    Computes (.cAddi4spn cd spn) s d (s.reg 2 + spn.setWidth 32) ∧
    Computes (.cNop imm) s 0 0 ∧
    Computes (.cAddi rd imm) s rd (s.reg rd + imm.signExtend 32) ∧
    Computes (.cLi rd imm) s rd (imm.signExtend 32) ∧
    Computes (.cAddi16sp spadj) s 2 (s.reg 2 + spadj.signExtend 32) ∧
    Computes (.cLui rd imm) s rd (imm.signExtend 20 ++ 0#12) ∧
    Computes (.cSrli cd shamt) s d (a >>> shamt.toNat) ∧
    Computes (.cSrai cd shamt) s d (a.sshiftRight shamt.toNat) ∧
    Computes (.cAndi cd imm) s d (a &&& imm.signExtend 32) ∧
    Computes (.cSub cd c2) s d (a - b) ∧
    Computes (.cXor cd c2) s d (a ^^^ b) ∧
    Computes (.cOr cd c2) s d (a ||| b) ∧
    Computes (.cAnd cd c2) s d (a &&& b) ∧
    Computes (.cSlli rd shamt) s rd (s.reg rd <<< shamt.toNat) ∧
    Computes (.cMv rd rs2) s rd (s.reg rs2) ∧
    Computes (.cAdd rd rs2) s rd (s.reg rd + s.reg rs2) ∧
    Computes (.cZextB cd) s d ((a.setWidth 8).setWidth 32) ∧
    Computes (.cSextB cd) s d ((a.setWidth 8).signExtend 32) ∧
    Computes (.cZextH cd) s d ((a.setWidth 16).setWidth 32) ∧
    Computes (.cSextH cd) s d ((a.setWidth 16).signExtend 32) ∧
    Computes (.cNot cd) s d (~~~ a) ∧
    Computes (.cMul cd c2) s d (BitVec.ofNat 32 (a.toNat * b.toNat))

/-- The 16-bit jumps and branches: the link is pc + 2, and a target from a register is the old value with bit 0 cleared
(45 R288, R299 to R301, R304, R307). -/
def Obligations.CompressedControl : Prop :=
  ∀ (s : State) (r : RegIdx) (c : CReg) (offset : BitVec 12) (near : BitVec 9),
    WritesReg (exec (.cJal offset) s) s 1 (s.hart.pc + 2) (s.hart.pc + offset.signExtend 32) ∧
    WritesRegs (exec (.cJ offset) s) s s.reg (s.hart.pc + offset.signExtend 32) ∧
    WritesRegs (exec (.cJr r) s) s s.reg (s.reg r &&& 0xfffffffe) ∧
    WritesReg (exec (.cJalr r) s) s 1 (s.hart.pc + 2) (s.reg r &&& 0xfffffffe) ∧
    WritesRegs (exec (.cBeqz c near) s) s s.reg
      (if s.reg (8#5 + c.setWidth 5) = 0 then s.hart.pc + near.signExtend 32 else s.hart.pc + 2) ∧
    WritesRegs (exec (.cBnez c near) s) s s.reg
      (if s.reg (8#5 + c.setWidth 5) ≠ 0 then s.hart.pc + near.signExtend 32 else s.hart.pc + 2)

/-! ### Bit manipulation (46, 47) -/

/-- Zba, the logical operations with a negated operand, minima and maxima, and the extensions of bytes and halfwords (46
R321 to R325, R329 to R332, R334, R339 to R342). -/
def Obligations.BitManipulationArithmetic : Prop :=
  ∀ (s : State) (rd rs1 rs2 : RegIdx),
    let a := s.reg rs1
    let b := s.reg rs2
    Computes (.sh1add rd rs1 rs2) s rd (b + 2 * a) ∧
    Computes (.sh2add rd rs1 rs2) s rd (b + 4 * a) ∧
    Computes (.sh3add rd rs1 rs2) s rd (b + 8 * a) ∧
    Computes (.andn rd rs1 rs2) s rd (a &&& ~~~ b) ∧
    Computes (.orn rd rs1 rs2) s rd (a ||| ~~~ b) ∧
    Computes (.xnor rd rs1 rs2) s rd (~~~ (a ^^^ b)) ∧
    Computes (.max rd rs1 rs2) s rd (if a.toInt < b.toInt then b else a) ∧
    Computes (.maxu rd rs1 rs2) s rd (if a.toNat < b.toNat then b else a) ∧
    Computes (.min rd rs1 rs2) s rd (if a.toInt < b.toInt then a else b) ∧
    Computes (.minu rd rs1 rs2) s rd (if a.toNat < b.toNat then a else b) ∧
    Computes (.sextB rd rs1) s rd ((a.setWidth 8).signExtend 32) ∧
    Computes (.sextH rd rs1) s rd ((a.setWidth 16).signExtend 32) ∧
    Computes (.zextH rd rs1) s rd ((a.setWidth 16).setWidth 32)

/-- clz and ctz count the zeros before the first one from the top and from the bottom, 32 where there is none; cpop
counts the ones (46 R326 to R328). -/
def Obligations.BitCounts : Prop :=
  ∀ (s : State) (rd rs1 : RegIdx),
    let a := s.reg rs1
    (∃ n, n ≤ 32 ∧ (∀ k, k < n → a.getLsbD (31 - k) = false) ∧ (n < 32 → a.getLsbD (31 - n) = true) ∧
      Computes (.clz rd rs1) s rd (BitVec.ofNat 32 n)) ∧
    (∃ n, n ≤ 32 ∧ (∀ k, k < n → a.getLsbD k = false) ∧ (n < 32 → a.getLsbD n = true) ∧
      Computes (.ctz rd rs1) s rd (BitVec.ofNat 32 n)) ∧
    Computes (.cpop rd rs1) s rd (BitVec.ofNat 32 ((List.range 32).countP fun k => a.getLsbD k))

/-- Where each bit of the result comes from, for the rotations, rev8, orc.b, brev8, zip, unzip, pack and packh (46 R333,
R335 to R338; 47 R360 to R364). -/
def Obligations.BitPermutations : Prop :=
  ∀ (s : State) (rd rs1 rs2 : RegIdx) (shamt : BitVec 5),
    let a := s.reg rs1
    let b := s.reg rs2
    let n := b.toNat % 32
    let gives := fun (i : Instr) (bit : Nat → Bool) => ∃ v : Word, Computes i s rd v ∧ ∀ k, k < 32 → v.getLsbD k = bit k
    gives (.rol rd rs1 rs2) (fun k => a.getLsbD ((k + 32 - n) % 32)) ∧
    gives (.ror rd rs1 rs2) (fun k => a.getLsbD ((k + n) % 32)) ∧
    gives (.rori rd rs1 shamt) (fun k => a.getLsbD ((k + shamt.toNat) % 32)) ∧
    gives (.rev8 rd rs1) (fun k => a.getLsbD (8 * (3 - k / 8) + k % 8)) ∧
    gives (.orcB rd rs1) (fun k => a.extractLsb' (8 * (k / 8)) 8 != 0#8) ∧
    gives (.brev8 rd rs1) (fun k => a.getLsbD (8 * (k / 8) + (7 - k % 8))) ∧
    gives (.zip rd rs1) (fun k => if k % 2 = 0 then a.getLsbD (k / 2) else a.getLsbD (k / 2 + 16)) ∧
    gives (.unzip rd rs1) (fun k => if k < 16 then a.getLsbD (2 * k) else a.getLsbD (2 * (k - 16) + 1)) ∧
    gives (.pack rd rs1 rs2) (fun k => if k < 16 then a.getLsbD k else b.getLsbD (k - 16)) ∧
    gives (.packh rd rs1 rs2) (fun k => if k < 8 then a.getLsbD k else if k < 16 then b.getLsbD (k - 8) else false)

/-- The single-bit instructions, with the index in a register, of which bits 4:0 count, or a constant (47 R350 to R358).
-/
def Obligations.SingleBits : Prop :=
  ∀ (s : State) (rd rs1 rs2 : RegIdx) (shamt : BitVec 5),
    let a := s.reg rs1
    let n := (s.reg rs2).toNat % 32
    let m := shamt.toNat
    let gives := fun (i : Instr) (bit : Nat → Bool) => ∃ v : Word, Computes i s rd v ∧ ∀ k, k < 32 → v.getLsbD k = bit k
    gives (.bclr rd rs1 rs2) (fun k => a.getLsbD k && k != n) ∧
    gives (.bclri rd rs1 shamt) (fun k => a.getLsbD k && k != m) ∧
    gives (.bset rd rs1 rs2) (fun k => a.getLsbD k || k == n) ∧
    gives (.bseti rd rs1 shamt) (fun k => a.getLsbD k || k == m) ∧
    gives (.binv rd rs1 rs2) (fun k => a.getLsbD k != (k == n)) ∧
    gives (.binvi rd rs1 shamt) (fun k => a.getLsbD k != (k == m)) ∧
    gives (.bext rd rs1 rs2) (fun k => k == 0 && a.getLsbD n) ∧
    gives (.bexti rd rs1 shamt) (fun k => k == 0 && a.getLsbD m)

/-! ### Zcmp (48) -/

/-- cm.push where every store passes its checks and reaches memory: the registers of the list below the old sp, the last one highest, and
sp lowered by the stack adjustment; nothing else changes (48 R385, 30 R136). -/
def Obligations.PushStoresRegisters : Prop :=
  ∀ (s : State) (rlist : BitVec 4) (spimm : BitVec 2),
    s.canPush (registerList rlist).length →
    StoresWith (exec (.cmPush rlist spimm) s) s false (s.pushedByte rlist (registerList rlist).length)
      (s.regsWith 2 (s.reg 2 - stackAdjust rlist spimm)) (s.hart.pc + 2)

/-- A cm.push whose store number j raises: the stores before it have happened, and else the machine is as after the trap of
that store: no register, sp neither, has changed, nor anything else that a trap keeps. A pop with a load that raises writes
no register: it traps as the first such load does (48 R384 (b), 60 R450; log 24). -/
def Obligations.ZcmpStopsAtFault : Prop :=
  ∀ (s : State) (rlist : BitVec 4) (spimm : BitVec 2) (j : Nat) (c : Cause), j < (registerList rlist).length →
    let top := s.reg 2 + stackAdjust rlist spimm
    (s.canPush j → s.storeVerdict 4 (slot (s.reg 2) j) = .trap c →
      ∃ t, exec (.cmPush rlist spimm) s = .next t ∧ s.storesInto t false (s.pushedByte rlist j) ∧
        s.hart.trapped t.hart c.code (s.hart.mtvec &&& 0xfffffffc) ∧ s.sameSystem t) ∧
    (s.canPop top j → s.loadVerdict 4 (slot top j) = .trap c →
      Raises (exec (.cmPop rlist spimm) s) s c.code ∧ Raises (exec (.cmPopret rlist spimm) s) s c.code ∧
      Raises (exec (.cmPopretz rlist spimm) s) s c.code)

/-- The three pops where every load passes its checks and reaches memory: the registers of the list from below the new sp, then sp; popretz
clears a0; popret and popretz go to the ra just loaded, with bit 0 cleared (48 R386 to R388). -/
def Obligations.PopsRestoreRegisters : Prop :=
  ∀ (s : State) (rlist : BitVec 4) (spimm : BitVec 2),
    let top := s.reg 2 + stackAdjust rlist spimm
    s.canPop top (registerList rlist).length →
    let f := s.poppedReg rlist top
    WritesRegs (exec (.cmPop rlist spimm) s) s f (s.hart.pc + 2) ∧
    WritesRegs (exec (.cmPopret rlist spimm) s) s f (f 1 &&& 0xfffffffe) ∧
    WritesRegs (exec (.cmPopretz rlist spimm) s) s (fun q => if q = 10 then 0 else f q) (f 1 &&& 0xfffffffe)

/-- The two moves of Zcmp, with the s registers 8, 9, 18 to 23 (48 R389, R390; 30 R125). -/
def Obligations.ZcmpMoves : Prop :=
  ∀ (s : State) (r1s r2s : SReg),
    let reg := fun n : SReg => ([8, 9, 18, 19, 20, 21, 22, 23] : List RegIdx).getD n.toNat 0
    (r1s ≠ r2s → WritesRegs (exec (.cmMvsa01 r1s r2s) s) s
      (fun q => if q = reg r1s then s.reg 10 else if q = reg r2s then s.reg 11 else s.reg q) (s.hart.pc + 2)) ∧
    WritesRegs (exec (.cmMva01s r1s r2s) s) s
      (fun q => if q = 10 then s.reg (reg r1s) else if q = 11 then s.reg (reg r2s) else s.reg q) (s.hart.pc + 2)

/-! ### Fences and CSR instructions (49) -/

/-- fence and fence.tso, whatever their fields, and wfi where it is not illegal, change nothing but the pc and the count
of instructions; fence.i also empties what the hart's fetches may see of old bytes, and nothing else (49 R401 to R403,
R416; 20 R111). -/
def Obligations.FencesAndWait : Prop :=
  ∀ (s : State) (fm pred succ : BitVec 4) (rs1 rd : RegIdx) (imm : BitVec 12),
    WritesRegs (exec (.fence fm pred succ rs1 rd) s) s s.reg (s.hart.pc + 4) ∧
    WritesRegs (exec .fenceTso s) s s.reg (s.hart.pc + 4) ∧
    (s.hart.priv = .machine ∨ s.hart.mstatus.tw = false → WritesRegs (exec .wfi s) s s.reg (s.hart.pc + 4)) ∧
    (∃ t, exec (.fenceI imm rs1 rd) s = .next t ∧ (∀ x, t.hart.heldValues x = []) ∧ s.hart.sameRegs t.hart ∧
      t.hart.pc = s.hart.pc + 4 ∧ s.hart.countsOne t.hart ∧ s.hart.sameControl t.hart ∧ s.hart.sameMonitors t.hart ∧
      t.other = s.other ∧ t.mem = s.mem ∧ s.sameSystem t)

/-- The six CSR instructions at an address that the hart may access: the old value to rd, and the new one to the
register, or no write where the rs1 field or the immediate is 0 in the set and clear forms (49 R405 to R411). Which
address names which register is the spec's table (10 R46 to R64), written out as `Csr.addresses`. A write of minstret
stands in place of its own increment (log 10), and an instruction that writes mcountinhibit counts by its old value (log
39): the model's choices. -/
def Obligations.CsrInstructions : Prop :=
  ∀ (s : State) (rd rs1 : RegIdx) (a : CsrAddr) (uimm : BitVec 5) (c : Csr), s.mayAccess a c →
    let old := csrRead c s
    (a.extractLsb' 10 2 ≠ 3#2 →
      AccessesCsr (exec (.csrrw rd a rs1) s) s c rd (some (s.reg rs1)) ∧
      AccessesCsr (exec (.csrrwi rd a uimm) s) s c rd (some (uimm.setWidth 32)) ∧
      (rs1 ≠ 0 → AccessesCsr (exec (.csrrs rd a rs1) s) s c rd (some (old ||| s.reg rs1)) ∧
        AccessesCsr (exec (.csrrc rd a rs1) s) s c rd (some (old &&& ~~~ s.reg rs1))) ∧
      (uimm ≠ 0 → AccessesCsr (exec (.csrrsi rd a uimm) s) s c rd (some (old ||| uimm.setWidth 32)) ∧
        AccessesCsr (exec (.csrrci rd a uimm) s) s c rd (some (old &&& ~~~ uimm.setWidth 32)))) ∧
    AccessesCsr (exec (.csrrs rd a 0) s) s c rd none ∧ AccessesCsr (exec (.csrrc rd a 0) s) s c rd none ∧
    AccessesCsr (exec (.csrrsi rd a 0) s) s c rd none ∧ AccessesCsr (exec (.csrrci rd a 0) s) s c rd none

/-- A CSR instruction is illegal where it writes a read-only address, and in U-mode where the address asks for M-mode or
names a counter that mcounteren does not enable (49 R405 (2), 10 R45, R57). -/
def Obligations.CsrAccessDenied : Prop :=
  ∀ (s : State) (rd rs1 : RegIdx) (a : CsrAddr) (uimm : BitVec 5),
    (a.extractLsb' 10 2 = 3#2 →
      Raises (exec (.csrrw rd a rs1) s) s 2 ∧ Raises (exec (.csrrwi rd a uimm) s) s 2 ∧
      (rs1 ≠ 0 → Raises (exec (.csrrs rd a rs1) s) s 2 ∧ Raises (exec (.csrrc rd a rs1) s) s 2) ∧
      (uimm ≠ 0 → Raises (exec (.csrrsi rd a uimm) s) s 2 ∧ Raises (exec (.csrrci rd a uimm) s) s 2)) ∧
    (s.hart.priv = .user →
      a.extractLsb' 8 2 ≠ 0#2 ∨ ((a = 0xc00 ∨ a = 0xc80) ∧ s.hart.mcounteren.getLsbD 0 = false) ∨
        ((a = 0xc01 ∨ a = 0xc81) ∧ s.hart.mcounteren.getLsbD 1 = false) ∨
        ((a = 0xc02 ∨ a = 0xc82) ∧ s.hart.mcounteren.getLsbD 2 = false) →
      Raises (exec (.csrrw rd a rs1) s) s 2 ∧ Raises (exec (.csrrwi rd a uimm) s) s 2 ∧
      Raises (exec (.csrrs rd a rs1) s) s 2 ∧ Raises (exec (.csrrc rd a rs1) s) s 2 ∧
      Raises (exec (.csrrsi rd a uimm) s) s 2 ∧ Raises (exec (.csrrci rd a uimm) s) s 2)

/-- A CSR instruction that names an address outside those of 10 R46 to R65 is illegal; so are medeleg and mideleg (10
R62, R66). -/
def Obligations.UnnamedCsrsIllegal : Prop :=
  ∀ (s : State) (rd rs1 : RegIdx) (a : CsrAddr) (uimm : BitVec 5),
    a.toNat ∉ [0x300, 0x310, 0x301, 0x304, 0x344, 0x305, 0x340, 0x341, 0x342, 0x343, 0x306, 0x320, 0xb00, 0xb80, 0xb02, 0xb82,
      0xc00, 0xc80, 0xc02, 0xc82, 0xc01, 0xc81, 0xf11, 0xf12, 0xf13, 0xf14, 0xf15, 0x7a0, 0x7a1, 0x7a2, 0x7a4] →
    ¬ (0xb03 ≤ a.toNat ∧ a.toNat ≤ 0xb1f) → ¬ (0xb83 ≤ a.toNat ∧ a.toNat ≤ 0xb9f) → ¬ (0x323 ≤ a.toNat ∧ a.toNat ≤ 0x33f) →
    ¬ (0x3a0 ≤ a.toNat ∧ a.toNat ≤ 0x3a3) → ¬ (0x3b0 ≤ a.toNat ∧ a.toNat ≤ 0x3bf) → ¬ (0xbc0 ≤ a.toNat ∧ a.toNat ≤ 0xbff) →
    Raises (exec (.csrrw rd a rs1) s) s 2 ∧ Raises (exec (.csrrwi rd a uimm) s) s 2 ∧
    Raises (exec (.csrrs rd a rs1) s) s 2 ∧ Raises (exec (.csrrc rd a rs1) s) s 2 ∧
    Raises (exec (.csrrsi rd a uimm) s) s 2 ∧ Raises (exec (.csrrci rd a uimm) s) s 2

/-- The hardware performance counters and their event registers read 0 and ignore writes in M-mode (10 R61), where the platform
has not left their addresses out: CsrImplemented is OPEN (92 D8), and that it may leave these out is the model's choice (log
18). -/
def Obligations.PerformanceCountersReadZero : Prop :=
  ∀ (s : State) (rd rs1 : RegIdx) (a : CsrAddr) (uimm : BitVec 5),
    (0xb03 ≤ a.toNat ∧ a.toNat ≤ 0xb1f) ∨ (0xb83 ≤ a.toNat ∧ a.toNat ≤ 0xb9f) ∨ (0x323 ≤ a.toNat ∧ a.toNat ≤ 0x33f) →
    s.plat.csrAbsent.contains a = false → s.hart.priv = .machine →
    WritesReg (exec (.csrrw rd a rs1) s) s rd 0 (s.hart.pc + 4) ∧
    WritesReg (exec (.csrrs rd a rs1) s) s rd 0 (s.hart.pc + 4) ∧
    WritesReg (exec (.csrrc rd a rs1) s) s rd 0 (s.hart.pc + 4) ∧
    WritesReg (exec (.csrrwi rd a uimm) s) s rd 0 (s.hart.pc + 4) ∧
    WritesReg (exec (.csrrsi rd a uimm) s) s rd 0 (s.hart.pc + 4) ∧
    WritesReg (exec (.csrrci rd a uimm) s) s rd 0 (s.hart.pc + 4)

/-- What each bit of mstatus shows, and what a write leaves of it: MIE 3, MPIE 7, MPP 12:11, MPRV 17, TW 21; every other
bit reads 0. MPP keeps a legal value, which for a written 1 or 2 is the platform's choice (10 R46). -/
def Obligations.MstatusFields : Prop :=
  ∀ (s : State) (v : Word),
    let m := s.hart.mstatus
    (∀ k, k < 32 → (csrRead .mstatus s).getLsbD k =
      (if k = 3 then m.mie else if k = 7 then m.mpie else if k = 11 ∨ k = 12 then m.mpp == .machine
        else if k = 17 then m.mprv else if k = 21 then m.tw else false)) ∧
    (let w := (csrWrite .mstatus v s).hart.mstatus
     w.mie = v.getLsbD 3 ∧ w.mpie = v.getLsbD 7 ∧ w.mprv = v.getLsbD 17 ∧ w.tw = v.getLsbD 21 ∧
      (v.extractLsb' 11 2 = 0#2 → w.mpp = .user) ∧ (v.extractLsb' 11 2 = 3#2 → w.mpp = .machine) ∧
      (v.extractLsb' 11 2 = 1#2 → w.mpp = s.plat.mppOnOne.apply m.mpp) ∧
      (v.extractLsb' 11 2 = 2#2 → w.mpp = s.plat.mppOnTwo.apply m.mpp))

/-- What a read of each CSR shows of the state, and what a write of it leaves: the field of its own name, for a handler the mepc
and the mcause that trap entry saved, and every other register, special or general, as it was (10 R46 to R63, 60 R450). What a
write leaves for the next read: of the trap and counter registers, the bits that the spec says they hold
(10 R47 to R58); of mcycle the value written where mcountinhibit.CY stops it, and else any value, an input (10 R59; log 9);
misa, mip and the identity registers keep what they show, mhartid 0 on one hart and 1 on the other (10 R48, R50, R56). Of
pmpcfg, bits 6:5 read 0, a reserved configuration leaves what the platform says, and a locked entry, like one that software
cannot write, ignores the write; of pmpaddr, every bit is held (log 40), the mode of the entry and the grain say what the low
bits read as, and a locked entry, the low bound of a locked TOR entry and one that software cannot write ignore the write; what
they show is the entries that decide an access (10 R63; the layout is PRESUMED, log 14 and log 15). -/
def Obligations.CsrWriteThenRead : Prop :=
  ∀ (s : State) (v : Word),
    (csrRead .mie s = s.hart.mie ∧ csrRead .mtvec s = s.hart.mtvec ∧ csrRead .mscratch s = s.hart.mscratch ∧
      csrRead .mepc s = s.hart.mepc ∧ csrRead .mcause s = s.hart.mcause ∧ csrRead .mcounteren s = s.hart.mcounteren ∧
      csrRead .mcountinhibit s = s.hart.mcountinhibit ∧ csrRead .mtval s = 0 ∧ csrRead .mstatush s = 0 ∧
      csrRead .mcycle s = s.hart.mcycle.setWidth 32 ∧ csrRead .mcycleh s = (s.hart.mcycle >>> 32).setWidth 32 ∧
      csrRead .minstret s = s.hart.minstret.setWidth 32 ∧ csrRead .minstreth s = (s.hart.minstret >>> 32).setWidth 32) ∧
    (∀ c : Csr, s.hart.sameBut c (csrWrite c v s).hart ∧ (csrWrite c v s).other = s.other ∧ (csrWrite c v s).mem = s.mem ∧
      s.sameSystem (csrWrite c v s)) ∧
    csrRead .mie (csrWrite .mie v s) = v &&& 0x888 ∧
    csrRead .mtvec (csrWrite .mtvec v s) = v &&& 0xfffffffd ∧
    csrRead .mscratch (csrWrite .mscratch v s) = v ∧
    csrRead .mepc (csrWrite .mepc v s) = v &&& 0xfffffffe ∧
    csrRead .mcause (csrWrite .mcause v s) = v &&& 0x8000000f ∧
    csrRead .mcounteren (csrWrite .mcounteren v s) = v &&& 7 ∧
    csrRead .mcountinhibit (csrWrite .mcountinhibit v s) = v &&& 5 ∧
    csrRead .mtval (csrWrite .mtval v s) = 0 ∧ csrRead .mstatush (csrWrite .mstatush v s) = 0 ∧
    (s.hart.mcountinhibit.getLsbD 0 = true →
      csrRead .mcycle (csrWrite .mcycle v s).countCycle = v ∧
      csrRead .mcycleh (csrWrite .mcycle v s).countCycle = csrRead .mcycleh s ∧
      csrRead .mcycleh (csrWrite .mcycleh v s).countCycle = v ∧
      csrRead .mcycle (csrWrite .mcycleh v s).countCycle = csrRead .mcycle s) ∧
    (s.hart.mcountinhibit.getLsbD 0 = false →
      csrRead .mcycle (csrWrite .mcycle v s).countCycle = s.inputs.cycle.setWidth 32 ∧
      csrRead .mcycleh (csrWrite .mcycleh v s).countCycle = (s.inputs.cycle >>> 32).setWidth 32) ∧
    csrRead .minstret (csrWrite .minstret v s) = v ∧ csrRead .minstreth (csrWrite .minstret v s) = csrRead .minstreth s ∧
    csrRead .minstreth (csrWrite .minstreth v s) = v ∧ csrRead .minstret (csrWrite .minstreth v s) = csrRead .minstret s ∧
    csrRead .cycle s = csrRead .mcycle s ∧ csrRead .cycleh s = csrRead .mcycleh s ∧
    csrRead .instret s = csrRead .minstret s ∧ csrRead .instreth s = csrRead .minstreth s ∧
    (∀ c ∈ [Csr.misa, .mip, .mvendorid, .marchid, .mimpid, .mhartid, .mconfigptr],
      csrRead c (csrWrite c v s) = csrRead c s) ∧
    csrRead .misa s = (if s.plat.misaX = true then 0x40901105 else 0x40101105) ∧
    csrRead .mvendorid s = s.plat.mvendorid ∧ csrRead .marchid s = s.plat.marchid ∧
    csrRead .mimpid s = s.plat.mimpid ∧ csrRead .mconfigptr s = s.plat.mconfigptr ∧
    (s.hart.id ≠ s.other.id →
      let swapped := { s with hart := s.other, other := s.hart }
      (csrRead .mhartid s = 0 ∧ csrRead .mhartid swapped = 1) ∨ (csrRead .mhartid s = 1 ∧ csrRead .mhartid swapped = 0)) ∧
    (∀ k, k < 32 → (csrRead .mip s).getLsbD k =
      (if k = 3 then s.inputs.msip else if k = 7 then s.inputs.mtip else if k = 11 then s.inputs.meip else false)) ∧
    (∀ (k : Fin 4) (j : Nat) (n : Fin 16), j < 4 → n.val = 4 * k.val + j →
      let w := v.extractLsb' (8 * j) 8
      let old := (csrRead (.pmpcfg k) s).extractLsb' (8 * j) 8
      let new := (csrRead (.pmpcfg k) (csrWrite (.pmpcfg k) v s)).extractLsb' (8 * j) 8
      let reserved := (w.getLsbD 1 = true ∧ w.getLsbD 0 = false) ∨ (w.extractLsb' 3 2 = 2#2 ∧ 0 < s.plat.pmpGrain)
      old = pmpCfgOf s.plat s.hart n ∧
      (s.plat.pmpCount ≤ n.val ∨ old.getLsbD 7 = true → new = old) ∧
      (n.val < s.plat.pmpCount → old.getLsbD 7 = false →
        (¬ reserved → new = w &&& 0x9f) ∧
        (reserved → new = (match s.plat.pmpIllegalWrite with | .keepOld => old | .clearEntry => 0)))) ∧
    (∀ n : Fin 16,
      let cfg := fun m : Fin 16 => pmpCfgOf s.plat s.hart m
      let bound := ∃ m : Fin 16, m.val = n.val + 1 ∧ (cfg m).getLsbD 7 = true ∧ (cfg m).extractLsb' 3 2 = 1#2
      let held := pmpAddrOf s.plat (csrWrite (.pmpaddr n) v s).hart n
      let shows := fun (t : State) (x : Word) => csrRead (.pmpaddr n) t =
        if (cfg n).getLsbD 4 = true then x ||| BitVec.ofNat 32 (2 ^ (s.plat.pmpGrain - 1) - 1)
        else x &&& ~~~ BitVec.ofNat 32 (2 ^ s.plat.pmpGrain - 1)
      shows s (pmpAddrOf s.plat s.hart n) ∧ shows (csrWrite (.pmpaddr n) v s) held ∧
      (s.plat.pmpCount ≤ n.val ∨ (cfg n).getLsbD 7 = true ∨ bound → held = pmpAddrOf s.plat s.hart n) ∧
      (n.val < s.plat.pmpCount → (cfg n).getLsbD 7 = false → ¬ bound → held = v))

/-! ### Traps and privilege (49, 60) -/

/-- Trap entry: mepc, mcause, mstatus, priv, the local monitor and the pc as the rule says, and nothing else; interrupts
alone are vectored (60 R450). -/
def Obligations.TrapEntry : Prop :=
  ∀ s : State,
    (∀ c : Cause, Raises (raise c s) s (match c with
      | .fetchFault => 1 | .illegal => 2 | .breakpoint => 3 | .loadMisaligned => 4 | .loadFault => 5 | .storeMisaligned => 6
      | .storeFault => 7 | .ecallUser => 8 | .ecallMachine => 11)) ∧
    (∀ irq : Irq,
      let code : Word := match irq with | .software => 3 | .timer => 7 | .external => 11
      TrapsTo (.next (enterTrap (.interrupt irq) s)) s (0x80000000 ||| code)
        (if s.hart.mtvec.extractLsb' 0 2 = 1#2 then (s.hart.mtvec &&& 0xfffffffc) + 4 * code
          else s.hart.mtvec &&& 0xfffffffc))

/-- ecall raises cause 11 in M-mode and cause 8 in U-mode; ebreak and c.ebreak raise cause 3, but where an attached
debug host catches them the model refuses; wfi in U-mode with TW set raises cause 2 (49 R413, R414, R416; 45 R306; the
refusal is log 30's). -/
def Obligations.SystemInstructionsTrap : Prop :=
  ∀ s : State,
    (s.hart.priv = .machine → Raises (exec .ecall s) s 11) ∧ (s.hart.priv = .user → Raises (exec .ecall s) s 8) ∧
    (s.plat.debugAttached = false → Raises (exec .ebreak s) s 3 ∧ Raises (exec .cEbreak s) s 3) ∧
    (s.hart.priv = .machine ∧ s.hart.dcsrEbreakM = false ∨ s.hart.priv = .user ∧ s.hart.dcsrEbreakU = false →
      Raises (exec .ebreak s) s 3 ∧ Raises (exec .cEbreak s) s 3) ∧
    (s.plat.debugAttached = true →
      s.hart.priv = .machine ∧ s.hart.dcsrEbreakM = true ∨ s.hart.priv = .user ∧ s.hart.dcsrEbreakU = true →
      exec .ebreak s = .refused .entersDebugMode ∧ exec .cEbreak s = .refused .entersDebugMode) ∧
    (s.hart.priv = .user → s.hart.mstatus.tw = true → Raises (exec .wfi s) s 2)

/-- mret in M-mode: priv from MPP, MIE from MPIE, MPIE set, MPP to U, MPRV cleared where M-mode is left, the pc from
mepc, and nothing else; in U-mode it is illegal (49 R415, 60 R452). -/
def Obligations.MretReturns : Prop :=
  ∀ s : State,
    (s.hart.priv = .machine → ∃ t, exec .mret s = .next t ∧ t.hart.priv = s.hart.mstatus.mpp ∧
      t.hart.mstatus.mie = s.hart.mstatus.mpie ∧ t.hart.mstatus.mpie = true ∧ t.hart.mstatus.mpp = .user ∧
      t.hart.mstatus.mprv = (if s.hart.mstatus.mpp = .machine then s.hart.mstatus.mprv else false) ∧
      t.hart.mstatus.tw = s.hart.mstatus.tw ∧ t.hart.pc = s.hart.mepc ∧ s.hart.sameRegs t.hart ∧
      s.hart.countsOne t.hart ∧ s.hart.sameMonitors t.hart ∧ t.hart.stale = s.hart.stale ∧ t.hart.id = s.hart.id ∧
      t.hart.mie = s.hart.mie ∧ t.hart.mtvec = s.hart.mtvec ∧ t.hart.mscratch = s.hart.mscratch ∧ t.hart.mepc = s.hart.mepc ∧
      t.hart.mcause = s.hart.mcause ∧ t.hart.mcounteren = s.hart.mcounteren ∧
      t.hart.mcountinhibit = s.hart.mcountinhibit ∧ t.hart.mcycle = s.hart.mcycle ∧ t.hart.pmpcfg = s.hart.pmpcfg ∧
      t.hart.pmpaddr = s.hart.pmpaddr ∧ t.hart.dcsrEbreakM = s.hart.dcsrEbreakM ∧
      t.hart.dcsrEbreakU = s.hart.dcsrEbreakU ∧ t.other = s.other ∧ t.mem = s.mem ∧ s.sameSystem t) ∧
    (s.hart.priv = .user → Raises (exec .mret s) s 2)

/-- The privilege level changes only so: from U-mode to M-mode by a trap of the instruction, from M-mode to U-mode by
mret with MPP at U (10 R40, 60 R461). Of a whole step: the waiting hart's level stays, and the level of the hart that
steps changes by a fetched mret, or from U-mode by a trap, of an interrupt, the fetch, the decoder or the instruction, which
saves the pc and goes to the handler (60 R450). -/
def Obligations.PrivilegeTransitions : Prop :=
  ∀ s t : State,
    (∀ i : Instr, exec i s = .next t → t.hart.priv ≠ s.hart.priv →
      (i = .mret ∧ s.hart.priv = .machine ∧ s.hart.mstatus.mpp = .user) ∨
      (s.hart.priv = .user ∧ t.hart.priv = .machine ∧ t.hart.mepc = s.hart.pc ∧ t.hart.mstatus.mpp = .user ∧
        t.hart.mstatus.mie = false ∧ t.hart.pc = s.hart.mtvec &&& 0xfffffffc)) ∧
    (step s = .next t →
      let h := if s.turns.head? = some true then t.other else t.hart
      let waiting := if s.turns.head? = some true then t.hart else t.other
      waiting.priv = s.other.priv ∧
      (h.priv ≠ s.hart.priv →
        (s.takenInterrupt = none ∧ (∃ c, s.fetch = .code c ∧ decode c = .ok .mret) ∧ s.hart.priv = .machine ∧
          s.hart.mstatus.mpp = .user) ∨
        (s.hart.priv = .user ∧ h.priv = .machine ∧ h.mepc = s.hart.pc ∧ h.mstatus.mpp = .user ∧ h.mstatus.mie = false ∧
          (s.takenInterrupt = none → h.pc = s.hart.mtvec &&& 0xfffffffc) ∧
          (∀ irq, s.takenInterrupt = some irq → h.pc = (enterTrap (.interrupt irq) s).hart.pc))))

/-- An instruction in U-mode that does not trap changes no M-mode register: its hart stays in U-mode with every CSR but
minstret as before (60 R460, 10 R45). -/
def Obligations.UserModeKeepsControl : Prop :=
  ∀ (i : Instr) (s t : State), exec i s = .next t → s.hart.priv = .user → t.hart.priv = .user → s.hart.sameControl t.hart

/-- In U-mode no instruction changes a byte of memory that the PMP does not let U-mode write, whatever the instruction,
also one that traps half-way (20 R96, 60 R460; the PMP's layout is log 14's). MPRV is clear in U-mode, by the invariant.
And what the PMP lets through, all of it by the model's layout, log 14: with no entry on, M-mode everything and U-mode nothing (20 R96); U-mode only what an entry that
is on permits; M-mode everything but what a locked entry that is on does not permit; and the entry of lowest number whose
region holds the address decides. An entry that is off holds no address; a TOR entry holds those from the register below up to
its own, both with the bits below the grain at 0; an NA4 entry holds one word; a NAPOT entry whose register, with the bits below
the grain but for the highest at 1, ends in k ones and a 0 holds the aligned 2^(k+3) bytes around its address. The entry n is
that of the registers n, or, after those that software can write, one that the platform fixes. -/
def Obligations.UserStoresProtected : Prop :=
  (∀ (i : Instr) (s t : State) (a : Word), exec i s = .next t → s.hart.priv = .user → s.hart.mstatus.mprv = false →
    t.mem.byteAt a.toNat ≠ s.mem.byteAt a.toNat → pmpAllows s.plat s.hart .user .write a = true) ∧
  (∀ (plat : Platform) (h : Hart) (kind : PmpKind) (a : Word),
    let cfg := fun n : Fin 16 => pmpCfgOf plat h n
    let permits := fun n : Fin 16 => match kind with
      | .read => (cfg n).getLsbD 0 = true
      | .write => (cfg n).getLsbD 1 = true
      | .readWrite => (cfg n).getLsbD 0 = true ∧ (cfg n).getLsbD 1 = true
      | .execute => (cfg n).getLsbD 2 = true
    let holds := fun n : Fin 16 => PmpEntry.matches plat.pmpGrain ⟨cfg n, pmpAddrOf plat h n, pmpLowOf plat h n⟩ a
    ((∀ n, (cfg n).extractLsb' 3 2 = 0#2) → pmpAllows plat h .machine kind a = true ∧ pmpAllows plat h .user kind a = false) ∧
    (pmpAllows plat h .user kind a = true → ∃ n, (cfg n).extractLsb' 3 2 ≠ 0#2 ∧ permits n) ∧
    (pmpAllows plat h .machine kind a = false → ∃ n, (cfg n).extractLsb' 3 2 ≠ 0#2 ∧ (cfg n).getLsbD 7 = true ∧ ¬ permits n) ∧
    (∀ n, holds n = true → (∀ m, m < n → holds m = false) →
      (pmpAllows plat h .user kind a = true ↔ permits n) ∧
      (pmpAllows plat h .machine kind a = true ↔ (cfg n).getLsbD 7 = false ∨ permits n))) ∧
  (∀ (grain : Nat) (e : PmpEntry) (a : Word),
    (e.cfg.extractLsb' 3 2 = 0#2 → e.matches grain a = false) ∧
    (e.cfg.extractLsb' 3 2 = 1#2 → (e.matches grain a = true ↔
      4 * (e.low.toNat / 2 ^ grain * 2 ^ grain) ≤ a.toNat ∧ a.toNat < 4 * (e.addr.toNat / 2 ^ grain * 2 ^ grain))) ∧
    (e.cfg.extractLsb' 3 2 = 2#2 → (e.matches grain a = true ↔ a.toNat / 4 = e.addr.toNat)) ∧
    (e.cfg.extractLsb' 3 2 = 3#2 → ∀ k, k ≤ 32 → (∀ j, j < k → j + 1 < grain ∨ e.addr.getLsbD j = true) →
      (k < 32 → grain ≤ k + 1 ∧ e.addr.getLsbD k = false) →
      (e.matches grain a = true ↔ a.toNat / 2 ^ (k + 3) = e.addr.toNat / 2 ^ (k + 1)))) ∧
  (∀ (plat : Platform) (h : Hart) (n m : Fin 16),
    (n.val < plat.pmpCount → pmpCfgOf plat h n = h.pmpcfg[n] ∧ pmpAddrOf plat h n = h.pmpaddr[n]) ∧
    (∀ f, plat.pmpCount ≤ n.val → plat.pmpFixed[n.val - plat.pmpCount]? = some f →
      pmpCfgOf plat h n = f.cfg ∧ pmpAddrOf plat h n = f.addr) ∧
    (plat.pmpCount ≤ n.val → plat.pmpFixed[n.val - plat.pmpCount]? = none →
      pmpCfgOf plat h n = 0 ∧ pmpAddrOf plat h n = 0) ∧
    pmpLowOf plat h 0 = 0 ∧ (n.val = m.val + 1 → pmpLowOf plat h n = pmpAddrOf plat h m))

/-! ### The two harts -/

/-- An instruction leaves the other hart's registers, pc, privilege level, CSRs and local monitor as they are, and the
parameters of the system (10 R43, 60 R478). -/
def Obligations.OtherHartKeeps : Prop :=
  ∀ (i : Instr) (s t : State), exec i s = .next t →
    s.other.sameRegs t.other ∧ t.other.pc = s.other.pc ∧ t.other.minstret = s.other.minstret ∧
    s.other.sameControl t.other ∧ t.other.localMonitor = s.other.localMonitor ∧ s.sameSystem t

/-- No write goes unnoticed: whatever instruction changes a byte of memory, both harts' fetches may still see the byte's
old value, and the other hart no longer holds a reservation of its granule (20 R110, R111; 44 R259 (a)). -/
def Obligations.WritesAreNoticed : Prop :=
  ∀ (i : Instr) (s t : State) (a : Word), exec i s = .next t → t.mem.byteAt a.toNat ≠ s.mem.byteAt a.toNat →
    s.mem.byteAt a.toNat ∈ t.hart.heldValues a.toNat ∧ s.mem.byteAt a.toNat ∈ t.other.heldValues a.toNat ∧
    t.other.reservedAt s.plat a = false

/-! ### Reset and the invariant -/

/-- What reset leaves, for every value of the OPEN parameters: each hart at its own RESET_PC in M-mode with MIE and MPRV
clear, mtvec at MTVEC_RESET, no reservation, a clear local monitor, no old byte for its fetches, and two different hart
numbers of which one is 0; memory holds the initial contents that the platform gives, the first where they name an address
twice (10 R77, 70 R490, 60 R478, 92 D4), and 0 elsewhere, which is the model's choice (log 11). -/
def Obligations.ResetState : Prop :=
  ∀ (plat : Platform) (pc0 pc1 mtvec : Word),
    let s := State.resetWith plat pc0 pc1 mtvec
    s.hart.pc = pc0 ∧ s.other.pc = pc1 ∧ s.plat = plat ∧ s.hart.id = 0 ∧ s.other.id ≠ s.hart.id ∧
    (∀ h, h = s.hart ∨ h = s.other →
      h.priv = .machine ∧ h.mstatus.mie = false ∧ h.mstatus.mprv = false ∧ h.mtvec = mtvec ∧ h.localMonitor = false ∧
      h.reservation = none ∧ (∀ x, h.heldValues x = []) ∧ h.reg 0 = 0) ∧
    s.pendingInterrupt = none ∧ csrRead .mtval s = 0 ∧
    (∀ x, x < 2 ^ 32 → s.mem.byteAt x = match plat.contents.find? fun c => c.1 == x with | some c => c.2 | none => 0)

/-- The invariant holds after reset, for every platform and every even reset pc and mtvec without its reserved bit (10
R37, R51). -/
def Obligations.ResetHasInvariant : Prop :=
  State.reset.Inv ∧
  ∀ (plat : Platform) (pc0 pc1 mtvec : Word), pc0.getLsbD 0 = false → pc1.getLsbD 0 = false → mtvec.getLsbD 1 = false →
    (State.resetWith plat pc0 pc1 mtvec).Inv

/-- Every step keeps the invariant: memory stays in its canonical form, every pc and mepc even, every reserved bit of a
CSR at 0, every PMP entry legal, MPRV clear in U-mode, and the harts' numbers different (10 R37, R46 to R58, R63; 49
R415; 60 R461). -/
def Obligations.StepKeepsInvariant : Prop :=
  ∀ s t : State, s.Inv → step s = .next t → t.Inv
end

