-- ==== Sys2Proof/Laws/Memory.lean ====
section
/-!
SUPPORT. The laws of memory: reading after writing, and the canonical form that every operation keeps.
-/

namespace Sys2Proof.Machine

/-! ### Reading after writing -/

theorem Memory.byteAt_erase (m : Memory) (a b : Nat) :
    (m.erase a).byteAt b = if b = a then Memory.unlisted else m.byteAt b := by
  induction m with
  | nil => simp [Memory.erase, Memory.byteAt]
  | cons e rest ih =>
    obtain ⟨c, v⟩ := e
    by_cases h : a = c
    · subst h
      by_cases hb : b = a
      · subst hb; simpa [Memory.erase] using ih
      · simpa [Memory.erase, Memory.byteAt, hb] using ih
    · by_cases hb : b = c
      · subst hb; simp [Memory.erase, Memory.byteAt, h, Ne.symm h]
      · simp [Memory.erase, Memory.byteAt, h, hb, ih]

theorem Memory.byteAt_insert (m : Memory) (a b : Nat) (v : Byte)
    (fresh : ∀ w, (a, w) ∉ m) : (m.insert a v).byteAt b = if b = a then v else m.byteAt b := by
  induction m with
  | nil => simp [Memory.insert, Memory.byteAt]
  | cons e rest ih =>
    obtain ⟨c, w⟩ := e
    have hne : c ≠ a := fun h => fresh w (by simp [h])
    have hrest : ∀ w, (a, w) ∉ rest := fun w hw => fresh w (by simp [hw])
    by_cases hlt : a < c
    · simp [Memory.insert, hlt, Memory.byteAt]
    · by_cases hb : b = c
      · subst hb; simp [Memory.insert, hlt, Memory.byteAt, hne]
      · simp [Memory.insert, hlt, Memory.byteAt, hb, ih hrest]

theorem Memory.not_mem_erase (m : Memory) (a : Nat) (w : Byte) : (a, w) ∉ m.erase a := by
  induction m with
  | nil => simp [Memory.erase]
  | cons e rest ih =>
    obtain ⟨c, v⟩ := e
    by_cases h : a = c
    · subst h; simpa [Memory.erase] using ih
    · simpa [Memory.erase, h] using ih

/-- A byte written reads back, and every other byte reads as before. -/
theorem Memory.byteAt_write (m : Memory) (a b : Nat) (v : Byte) :
    (m.write a v).byteAt b = if b = a then v else m.byteAt b := by
  unfold Memory.write
  split
  · next h => rw [Memory.byteAt_erase, h]
  · rw [Memory.byteAt_insert _ _ _ _ (Memory.not_mem_erase m a), Memory.byteAt_erase]
    split <;> simp_all

/-! ### The canonical form -/

theorem Memory.risesAbove_mono {m : Memory} {n k : Nat} (h : n ≤ k) (hm : Memory.risesAbove k m = true) :
    Memory.risesAbove n m = true := by
  cases m with
  | nil => rfl
  | cons e rest =>
    obtain ⟨a, v⟩ := e
    simp only [Memory.risesAbove, Bool.and_eq_true, decide_eq_true_eq] at hm ⊢
    exact ⟨⟨⟨by omega, hm.1.1.2⟩, hm.1.2⟩, hm.2⟩

theorem Memory.risesAbove_erase {m : Memory} {n : Nat} (a : Nat) (hm : Memory.risesAbove n m = true) :
    Memory.risesAbove n (m.erase a) = true := by
  induction m generalizing n with
  | nil => rfl
  | cons e rest ih =>
    obtain ⟨c, v⟩ := e
    simp only [Memory.risesAbove, Bool.and_eq_true, decide_eq_true_eq] at hm
    by_cases h : a = c
    · subst h
      simpa [Memory.erase] using ih (Memory.risesAbove_mono (by omega) hm.2)
    · simp only [Memory.erase, h, if_false, Memory.risesAbove, Bool.and_eq_true, decide_eq_true_eq]
      exact ⟨hm.1, ih hm.2⟩

theorem Memory.risesAbove_insert {m : Memory} {n : Nat} (a : Nat) (v : Byte) (hn : n ≤ a) (ha : a < 2 ^ 32)
    (hv : v ≠ Memory.unlisted) (fresh : ∀ w, (a, w) ∉ m) (hm : Memory.risesAbove n m = true) :
    Memory.risesAbove n (m.insert a v) = true := by
  induction m generalizing n with
  | nil =>
    simp only [Memory.insert, Memory.risesAbove, Bool.and_eq_true, decide_eq_true_eq]
    exact ⟨⟨⟨hn, hv⟩, ha⟩, trivial⟩
  | cons e rest ih =>
    obtain ⟨c, w⟩ := e
    simp only [Memory.risesAbove, Bool.and_eq_true, decide_eq_true_eq] at hm
    by_cases hlt : a < c
    · simp only [Memory.insert, hlt, if_true, Memory.risesAbove, Bool.and_eq_true, decide_eq_true_eq]
      exact ⟨⟨⟨hn, hv⟩, ha⟩, ⟨⟨by omega, hm.1.1.2⟩, hm.1.2⟩, hm.2⟩
    · have hne : a ≠ c := fun h => fresh w (by simp [h])
      simp only [Memory.insert, hlt, if_false, Memory.risesAbove, Bool.and_eq_true, decide_eq_true_eq]
      exact ⟨hm.1, ih (by omega) (fun w hw => fresh w (by simp [hw])) hm.2⟩

/-- Writing a byte keeps the canonical form. -/
theorem Memory.wf_write {m : Memory} {a : Nat} (v : Byte) (ha : a < 2 ^ 32) (hm : m.wf = true) : (m.write a v).wf = true := by
  unfold Memory.write
  split
  · exact Memory.risesAbove_erase a hm
  · next hv => exact Memory.risesAbove_insert a v (Nat.zero_le a) ha hv (Memory.not_mem_erase m a) (Memory.risesAbove_erase a hm)

/-- Writing at the address of a word keeps the canonical form. -/
theorem Memory.wf_write_word {m : Memory} (a : Word) (v : Byte) (hm : m.wf = true) : (m.write a.toNat v).wf = true :=
  Memory.wf_write v a.isLt hm

/-- The empty memory has the canonical form. -/
theorem Memory.wf_nil : Memory.wf [] = true := rfl

/-! ### Given contents -/

/-- Any contents give a memory in its canonical form. -/
theorem Memory.wf_ofCells (cells : List Host.Cell) : (Memory.ofCells cells).wf = true := by
  induction cells with
  | nil => rfl
  | cons e rest ih =>
    unfold Memory.ofCells
    split
    · next h => exact Memory.wf_write _ h ih
    · exact ih

/-- What a byte of the address space reads as where the contents list it first. -/
theorem Memory.byteAt_ofCells_cons (a x : Nat) (v : Byte) (rest : List Host.Cell) (h : a < 2 ^ 32) :
    (Memory.ofCells ((a, v) :: rest)).byteAt x = if x = a then v else (Memory.ofCells rest).byteAt x := by
  simp only [Memory.ofCells, h, if_true, Memory.byteAt_write]

end Sys2Proof.Machine
end

