-- ==== Sys2Proof/Laws/State.lean ====
section
/-!
SUPPORT. What each update of the state leaves in each field: one lemma per field and update, so that no later proof unfolds
a record update.
-/

namespace Sys2Proof.Machine

/-! ### Registers -/

theorem regSlot_inj {r q : RegIdx} (hr : r ≠ 0#5) (hq : q ≠ 0#5) (h : (regSlot r).val = (regSlot q).val) : r = q := by
  simp only [regSlot] at h
  have h1 : r.toNat ≠ 0 := fun h0 => hr (BitVec.eq_of_toNat_eq (by simpa using h0))
  have h2 : q.toNat ≠ 0 := fun h0 => hq (BitVec.eq_of_toNat_eq (by simpa using h0))
  exact BitVec.eq_of_toNat_eq (by omega)

@[simp] theorem Hart.reg_zero (h : Hart) : h.reg 0#5 = 0#32 := by simp [Hart.reg]

@[simp] theorem State.reg_zero (s : State) : s.reg 0#5 = 0#32 := by simp [State.reg]

@[simp] theorem Hart.setReg_zero (h : Hart) (v : Word) : h.setReg 0#5 v = h := by simp [Hart.setReg]

@[simp] theorem State.setReg_zero (s : State) (v : Word) : s.setReg 0#5 v = s := by simp [State.setReg]

/-- Reading a register after a write: the value where it is that register and not x0, else what it read before. -/
theorem Hart.reg_setReg (h : Hart) (r q : RegIdx) (v : Word) :
    (h.setReg r v).reg q = if q = r ∧ r ≠ 0#5 then v else h.reg q := by
  by_cases hr : r = 0#5
  · subst hr; simp
  · by_cases hq : q = 0#5
    · subst hq
      have : ¬ (0#5 = r) := fun e => hr e.symm
      simp [this]
    · by_cases hqr : q = r
      · subst hqr; simp [Hart.setReg, Hart.reg, hr]
      · have hne : (regSlot r).val ≠ (regSlot q).val := fun hh => hqr (regSlot_inj hr hq hh).symm
        simp only [Hart.setReg, Hart.reg, hr, hq, hqr, if_false, false_and]
        exact Vector.getElem_set_ne _ _ hne

/-- Reading a register of the running hart after a write. -/
theorem State.reg_setReg (s : State) (r q : RegIdx) (v : Word) :
    (s.setReg r v).reg q = if q = r ∧ r ≠ 0#5 then v else s.reg q := Hart.reg_setReg s.hart r q v

@[simp] theorem Hart.setReg_id (h : Hart) (r : RegIdx) (v : Word) : (h.setReg r v).id = h.id := by
  unfold Hart.setReg; split <;> rfl
@[simp] theorem State.setReg_hart_id (s : State) (r : RegIdx) (v : Word) : (s.setReg r v).hart.id = s.hart.id :=
  Hart.setReg_id s.hart r v
@[simp] theorem Hart.setReg_pc (h : Hart) (r : RegIdx) (v : Word) : (h.setReg r v).pc = h.pc := by
  unfold Hart.setReg; split <;> rfl
@[simp] theorem State.setReg_hart_pc (s : State) (r : RegIdx) (v : Word) : (s.setReg r v).hart.pc = s.hart.pc :=
  Hart.setReg_pc s.hart r v
@[simp] theorem Hart.setReg_priv (h : Hart) (r : RegIdx) (v : Word) : (h.setReg r v).priv = h.priv := by
  unfold Hart.setReg; split <;> rfl
@[simp] theorem State.setReg_hart_priv (s : State) (r : RegIdx) (v : Word) : (s.setReg r v).hart.priv = s.hart.priv :=
  Hart.setReg_priv s.hart r v
@[simp] theorem Hart.setReg_localMonitor (h : Hart) (r : RegIdx) (v : Word) : (h.setReg r v).localMonitor = h.localMonitor := by
  unfold Hart.setReg; split <;> rfl
@[simp] theorem State.setReg_hart_localMonitor (s : State) (r : RegIdx) (v : Word) : (s.setReg r v).hart.localMonitor = s.hart.localMonitor :=
  Hart.setReg_localMonitor s.hart r v
@[simp] theorem Hart.setReg_reservation (h : Hart) (r : RegIdx) (v : Word) : (h.setReg r v).reservation = h.reservation := by
  unfold Hart.setReg; split <;> rfl
@[simp] theorem State.setReg_hart_reservation (s : State) (r : RegIdx) (v : Word) : (s.setReg r v).hart.reservation = s.hart.reservation :=
  Hart.setReg_reservation s.hart r v
@[simp] theorem Hart.setReg_mstatus (h : Hart) (r : RegIdx) (v : Word) : (h.setReg r v).mstatus = h.mstatus := by
  unfold Hart.setReg; split <;> rfl
@[simp] theorem State.setReg_hart_mstatus (s : State) (r : RegIdx) (v : Word) : (s.setReg r v).hart.mstatus = s.hart.mstatus :=
  Hart.setReg_mstatus s.hart r v
@[simp] theorem Hart.setReg_mie (h : Hart) (r : RegIdx) (v : Word) : (h.setReg r v).mie = h.mie := by
  unfold Hart.setReg; split <;> rfl
@[simp] theorem State.setReg_hart_mie (s : State) (r : RegIdx) (v : Word) : (s.setReg r v).hart.mie = s.hart.mie :=
  Hart.setReg_mie s.hart r v
@[simp] theorem Hart.setReg_mtvec (h : Hart) (r : RegIdx) (v : Word) : (h.setReg r v).mtvec = h.mtvec := by
  unfold Hart.setReg; split <;> rfl
@[simp] theorem State.setReg_hart_mtvec (s : State) (r : RegIdx) (v : Word) : (s.setReg r v).hart.mtvec = s.hart.mtvec :=
  Hart.setReg_mtvec s.hart r v
@[simp] theorem Hart.setReg_mscratch (h : Hart) (r : RegIdx) (v : Word) : (h.setReg r v).mscratch = h.mscratch := by
  unfold Hart.setReg; split <;> rfl
@[simp] theorem State.setReg_hart_mscratch (s : State) (r : RegIdx) (v : Word) : (s.setReg r v).hart.mscratch = s.hart.mscratch :=
  Hart.setReg_mscratch s.hart r v
@[simp] theorem Hart.setReg_mepc (h : Hart) (r : RegIdx) (v : Word) : (h.setReg r v).mepc = h.mepc := by
  unfold Hart.setReg; split <;> rfl
@[simp] theorem State.setReg_hart_mepc (s : State) (r : RegIdx) (v : Word) : (s.setReg r v).hart.mepc = s.hart.mepc :=
  Hart.setReg_mepc s.hart r v
@[simp] theorem Hart.setReg_mcause (h : Hart) (r : RegIdx) (v : Word) : (h.setReg r v).mcause = h.mcause := by
  unfold Hart.setReg; split <;> rfl
@[simp] theorem State.setReg_hart_mcause (s : State) (r : RegIdx) (v : Word) : (s.setReg r v).hart.mcause = s.hart.mcause :=
  Hart.setReg_mcause s.hart r v
@[simp] theorem Hart.setReg_mcounteren (h : Hart) (r : RegIdx) (v : Word) : (h.setReg r v).mcounteren = h.mcounteren := by
  unfold Hart.setReg; split <;> rfl
@[simp] theorem State.setReg_hart_mcounteren (s : State) (r : RegIdx) (v : Word) : (s.setReg r v).hart.mcounteren = s.hart.mcounteren :=
  Hart.setReg_mcounteren s.hart r v
@[simp] theorem Hart.setReg_mcountinhibit (h : Hart) (r : RegIdx) (v : Word) : (h.setReg r v).mcountinhibit = h.mcountinhibit := by
  unfold Hart.setReg; split <;> rfl
@[simp] theorem State.setReg_hart_mcountinhibit (s : State) (r : RegIdx) (v : Word) : (s.setReg r v).hart.mcountinhibit = s.hart.mcountinhibit :=
  Hart.setReg_mcountinhibit s.hart r v
@[simp] theorem Hart.setReg_mcycle (h : Hart) (r : RegIdx) (v : Word) : (h.setReg r v).mcycle = h.mcycle := by
  unfold Hart.setReg; split <;> rfl
@[simp] theorem State.setReg_hart_mcycle (s : State) (r : RegIdx) (v : Word) : (s.setReg r v).hart.mcycle = s.hart.mcycle :=
  Hart.setReg_mcycle s.hart r v
@[simp] theorem Hart.setReg_minstret (h : Hart) (r : RegIdx) (v : Word) : (h.setReg r v).minstret = h.minstret := by
  unfold Hart.setReg; split <;> rfl
@[simp] theorem State.setReg_hart_minstret (s : State) (r : RegIdx) (v : Word) : (s.setReg r v).hart.minstret = s.hart.minstret :=
  Hart.setReg_minstret s.hart r v
@[simp] theorem Hart.setReg_pmpcfg (h : Hart) (r : RegIdx) (v : Word) : (h.setReg r v).pmpcfg = h.pmpcfg := by
  unfold Hart.setReg; split <;> rfl
@[simp] theorem State.setReg_hart_pmpcfg (s : State) (r : RegIdx) (v : Word) : (s.setReg r v).hart.pmpcfg = s.hart.pmpcfg :=
  Hart.setReg_pmpcfg s.hart r v
@[simp] theorem Hart.setReg_pmpaddr (h : Hart) (r : RegIdx) (v : Word) : (h.setReg r v).pmpaddr = h.pmpaddr := by
  unfold Hart.setReg; split <;> rfl
@[simp] theorem State.setReg_hart_pmpaddr (s : State) (r : RegIdx) (v : Word) : (s.setReg r v).hart.pmpaddr = s.hart.pmpaddr :=
  Hart.setReg_pmpaddr s.hart r v
@[simp] theorem Hart.setReg_dcsrEbreakM (h : Hart) (r : RegIdx) (v : Word) : (h.setReg r v).dcsrEbreakM = h.dcsrEbreakM := by
  unfold Hart.setReg; split <;> rfl
@[simp] theorem State.setReg_hart_dcsrEbreakM (s : State) (r : RegIdx) (v : Word) : (s.setReg r v).hart.dcsrEbreakM = s.hart.dcsrEbreakM :=
  Hart.setReg_dcsrEbreakM s.hart r v
@[simp] theorem Hart.setReg_dcsrEbreakU (h : Hart) (r : RegIdx) (v : Word) : (h.setReg r v).dcsrEbreakU = h.dcsrEbreakU := by
  unfold Hart.setReg; split <;> rfl
@[simp] theorem State.setReg_hart_dcsrEbreakU (s : State) (r : RegIdx) (v : Word) : (s.setReg r v).hart.dcsrEbreakU = s.hart.dcsrEbreakU :=
  Hart.setReg_dcsrEbreakU s.hart r v
@[simp] theorem Hart.setReg_stale (h : Hart) (r : RegIdx) (v : Word) : (h.setReg r v).stale = h.stale := by
  unfold Hart.setReg; split <;> rfl
@[simp] theorem State.setReg_hart_stale (s : State) (r : RegIdx) (v : Word) : (s.setReg r v).hart.stale = s.hart.stale :=
  Hart.setReg_stale s.hart r v
@[simp] theorem State.setReg_other (s : State) (r : RegIdx) (v : Word) : (s.setReg r v).other = s.other := rfl
@[simp] theorem State.setReg_mem (s : State) (r : RegIdx) (v : Word) : (s.setReg r v).mem = s.mem := rfl
@[simp] theorem State.setReg_plat (s : State) (r : RegIdx) (v : Word) : (s.setReg r v).plat = s.plat := rfl
@[simp] theorem State.setReg_turns (s : State) (r : RegIdx) (v : Word) : (s.setReg r v).turns = s.turns := rfl
@[simp] theorem State.setReg_script (s : State) (r : RegIdx) (v : Word) : (s.setReg r v).script = s.script := rfl
@[simp] theorem State.setReg_now (s : State) (r : RegIdx) (v : Word) : (s.setReg r v).now = s.now := rfl

/-! ### The pc -/

@[simp] theorem State.setPc_hart_id (s : State) (a : Word) : (s.setPc a).hart.id = s.hart.id := rfl
@[simp] theorem State.setPc_hart_regs (s : State) (a : Word) : (s.setPc a).hart.regs = s.hart.regs := rfl
@[simp] theorem State.setPc_hart_pc (s : State) (a : Word) : (s.setPc a).hart.pc = a := rfl
@[simp] theorem State.setPc_hart_priv (s : State) (a : Word) : (s.setPc a).hart.priv = s.hart.priv := rfl
@[simp] theorem State.setPc_hart_localMonitor (s : State) (a : Word) : (s.setPc a).hart.localMonitor = s.hart.localMonitor := rfl
@[simp] theorem State.setPc_hart_reservation (s : State) (a : Word) : (s.setPc a).hart.reservation = s.hart.reservation := rfl
@[simp] theorem State.setPc_hart_mstatus (s : State) (a : Word) : (s.setPc a).hart.mstatus = s.hart.mstatus := rfl
@[simp] theorem State.setPc_hart_mie (s : State) (a : Word) : (s.setPc a).hart.mie = s.hart.mie := rfl
@[simp] theorem State.setPc_hart_mtvec (s : State) (a : Word) : (s.setPc a).hart.mtvec = s.hart.mtvec := rfl
@[simp] theorem State.setPc_hart_mscratch (s : State) (a : Word) : (s.setPc a).hart.mscratch = s.hart.mscratch := rfl
@[simp] theorem State.setPc_hart_mepc (s : State) (a : Word) : (s.setPc a).hart.mepc = s.hart.mepc := rfl
@[simp] theorem State.setPc_hart_mcause (s : State) (a : Word) : (s.setPc a).hart.mcause = s.hart.mcause := rfl
@[simp] theorem State.setPc_hart_mcounteren (s : State) (a : Word) : (s.setPc a).hart.mcounteren = s.hart.mcounteren := rfl
@[simp] theorem State.setPc_hart_mcountinhibit (s : State) (a : Word) : (s.setPc a).hart.mcountinhibit = s.hart.mcountinhibit := rfl
@[simp] theorem State.setPc_hart_mcycle (s : State) (a : Word) : (s.setPc a).hart.mcycle = s.hart.mcycle := rfl
@[simp] theorem State.setPc_hart_minstret (s : State) (a : Word) : (s.setPc a).hart.minstret = s.hart.minstret := rfl
@[simp] theorem State.setPc_hart_pmpcfg (s : State) (a : Word) : (s.setPc a).hart.pmpcfg = s.hart.pmpcfg := rfl
@[simp] theorem State.setPc_hart_pmpaddr (s : State) (a : Word) : (s.setPc a).hart.pmpaddr = s.hart.pmpaddr := rfl
@[simp] theorem State.setPc_hart_dcsrEbreakM (s : State) (a : Word) : (s.setPc a).hart.dcsrEbreakM = s.hart.dcsrEbreakM := rfl
@[simp] theorem State.setPc_hart_dcsrEbreakU (s : State) (a : Word) : (s.setPc a).hart.dcsrEbreakU = s.hart.dcsrEbreakU := rfl
@[simp] theorem State.setPc_hart_stale (s : State) (a : Word) : (s.setPc a).hart.stale = s.hart.stale := rfl
@[simp] theorem State.setPc_other (s : State) (a : Word) : (s.setPc a).other = s.other := rfl
@[simp] theorem State.setPc_mem (s : State) (a : Word) : (s.setPc a).mem = s.mem := rfl
@[simp] theorem State.setPc_plat (s : State) (a : Word) : (s.setPc a).plat = s.plat := rfl
@[simp] theorem State.setPc_turns (s : State) (a : Word) : (s.setPc a).turns = s.turns := rfl
@[simp] theorem State.setPc_script (s : State) (a : Word) : (s.setPc a).script = s.script := rfl
@[simp] theorem State.setPc_now (s : State) (a : Word) : (s.setPc a).now = s.now := rfl
@[simp] theorem State.setPc_reg (s : State) (a : Word) (r : RegIdx) : (s.setPc a).reg r = s.reg r := rfl

/-! ### The local monitor -/

@[simp] theorem State.setLocalMonitor_hart_id (s : State) (b : Bool) : (s.setLocalMonitor b).hart.id = s.hart.id := rfl
@[simp] theorem State.setLocalMonitor_hart_regs (s : State) (b : Bool) : (s.setLocalMonitor b).hart.regs = s.hart.regs := rfl
@[simp] theorem State.setLocalMonitor_hart_pc (s : State) (b : Bool) : (s.setLocalMonitor b).hart.pc = s.hart.pc := rfl
@[simp] theorem State.setLocalMonitor_hart_priv (s : State) (b : Bool) : (s.setLocalMonitor b).hart.priv = s.hart.priv := rfl
@[simp] theorem State.setLocalMonitor_hart_localMonitor (s : State) (b : Bool) : (s.setLocalMonitor b).hart.localMonitor = b := rfl
@[simp] theorem State.setLocalMonitor_hart_reservation (s : State) (b : Bool) : (s.setLocalMonitor b).hart.reservation = s.hart.reservation := rfl
@[simp] theorem State.setLocalMonitor_hart_mstatus (s : State) (b : Bool) : (s.setLocalMonitor b).hart.mstatus = s.hart.mstatus := rfl
@[simp] theorem State.setLocalMonitor_hart_mie (s : State) (b : Bool) : (s.setLocalMonitor b).hart.mie = s.hart.mie := rfl
@[simp] theorem State.setLocalMonitor_hart_mtvec (s : State) (b : Bool) : (s.setLocalMonitor b).hart.mtvec = s.hart.mtvec := rfl
@[simp] theorem State.setLocalMonitor_hart_mscratch (s : State) (b : Bool) : (s.setLocalMonitor b).hart.mscratch = s.hart.mscratch := rfl
@[simp] theorem State.setLocalMonitor_hart_mepc (s : State) (b : Bool) : (s.setLocalMonitor b).hart.mepc = s.hart.mepc := rfl
@[simp] theorem State.setLocalMonitor_hart_mcause (s : State) (b : Bool) : (s.setLocalMonitor b).hart.mcause = s.hart.mcause := rfl
@[simp] theorem State.setLocalMonitor_hart_mcounteren (s : State) (b : Bool) : (s.setLocalMonitor b).hart.mcounteren = s.hart.mcounteren := rfl
@[simp] theorem State.setLocalMonitor_hart_mcountinhibit (s : State) (b : Bool) : (s.setLocalMonitor b).hart.mcountinhibit = s.hart.mcountinhibit := rfl
@[simp] theorem State.setLocalMonitor_hart_mcycle (s : State) (b : Bool) : (s.setLocalMonitor b).hart.mcycle = s.hart.mcycle := rfl
@[simp] theorem State.setLocalMonitor_hart_minstret (s : State) (b : Bool) : (s.setLocalMonitor b).hart.minstret = s.hart.minstret := rfl
@[simp] theorem State.setLocalMonitor_hart_pmpcfg (s : State) (b : Bool) : (s.setLocalMonitor b).hart.pmpcfg = s.hart.pmpcfg := rfl
@[simp] theorem State.setLocalMonitor_hart_pmpaddr (s : State) (b : Bool) : (s.setLocalMonitor b).hart.pmpaddr = s.hart.pmpaddr := rfl
@[simp] theorem State.setLocalMonitor_hart_dcsrEbreakM (s : State) (b : Bool) : (s.setLocalMonitor b).hart.dcsrEbreakM = s.hart.dcsrEbreakM := rfl
@[simp] theorem State.setLocalMonitor_hart_dcsrEbreakU (s : State) (b : Bool) : (s.setLocalMonitor b).hart.dcsrEbreakU = s.hart.dcsrEbreakU := rfl
@[simp] theorem State.setLocalMonitor_hart_stale (s : State) (b : Bool) : (s.setLocalMonitor b).hart.stale = s.hart.stale := rfl
@[simp] theorem State.setLocalMonitor_other (s : State) (b : Bool) : (s.setLocalMonitor b).other = s.other := rfl
@[simp] theorem State.setLocalMonitor_mem (s : State) (b : Bool) : (s.setLocalMonitor b).mem = s.mem := rfl
@[simp] theorem State.setLocalMonitor_plat (s : State) (b : Bool) : (s.setLocalMonitor b).plat = s.plat := rfl
@[simp] theorem State.setLocalMonitor_turns (s : State) (b : Bool) : (s.setLocalMonitor b).turns = s.turns := rfl
@[simp] theorem State.setLocalMonitor_script (s : State) (b : Bool) : (s.setLocalMonitor b).script = s.script := rfl
@[simp] theorem State.setLocalMonitor_now (s : State) (b : Bool) : (s.setLocalMonitor b).now = s.now := rfl
@[simp] theorem State.setLocalMonitor_reg (s : State) (b : Bool) (r : RegIdx) : (s.setLocalMonitor b).reg r = s.reg r := rfl

/-! ### The reservation -/

@[simp] theorem State.setReservation_hart_id (s : State) (q : Option Word) : (s.setReservation q).hart.id = s.hart.id := rfl
@[simp] theorem State.setReservation_hart_regs (s : State) (q : Option Word) : (s.setReservation q).hart.regs = s.hart.regs := rfl
@[simp] theorem State.setReservation_hart_pc (s : State) (q : Option Word) : (s.setReservation q).hart.pc = s.hart.pc := rfl
@[simp] theorem State.setReservation_hart_priv (s : State) (q : Option Word) : (s.setReservation q).hart.priv = s.hart.priv := rfl
@[simp] theorem State.setReservation_hart_localMonitor (s : State) (q : Option Word) : (s.setReservation q).hart.localMonitor = s.hart.localMonitor := rfl
@[simp] theorem State.setReservation_hart_reservation (s : State) (q : Option Word) : (s.setReservation q).hart.reservation = q := rfl
@[simp] theorem State.setReservation_hart_mstatus (s : State) (q : Option Word) : (s.setReservation q).hart.mstatus = s.hart.mstatus := rfl
@[simp] theorem State.setReservation_hart_mie (s : State) (q : Option Word) : (s.setReservation q).hart.mie = s.hart.mie := rfl
@[simp] theorem State.setReservation_hart_mtvec (s : State) (q : Option Word) : (s.setReservation q).hart.mtvec = s.hart.mtvec := rfl
@[simp] theorem State.setReservation_hart_mscratch (s : State) (q : Option Word) : (s.setReservation q).hart.mscratch = s.hart.mscratch := rfl
@[simp] theorem State.setReservation_hart_mepc (s : State) (q : Option Word) : (s.setReservation q).hart.mepc = s.hart.mepc := rfl
@[simp] theorem State.setReservation_hart_mcause (s : State) (q : Option Word) : (s.setReservation q).hart.mcause = s.hart.mcause := rfl
@[simp] theorem State.setReservation_hart_mcounteren (s : State) (q : Option Word) : (s.setReservation q).hart.mcounteren = s.hart.mcounteren := rfl
@[simp] theorem State.setReservation_hart_mcountinhibit (s : State) (q : Option Word) : (s.setReservation q).hart.mcountinhibit = s.hart.mcountinhibit := rfl
@[simp] theorem State.setReservation_hart_mcycle (s : State) (q : Option Word) : (s.setReservation q).hart.mcycle = s.hart.mcycle := rfl
@[simp] theorem State.setReservation_hart_minstret (s : State) (q : Option Word) : (s.setReservation q).hart.minstret = s.hart.minstret := rfl
@[simp] theorem State.setReservation_hart_pmpcfg (s : State) (q : Option Word) : (s.setReservation q).hart.pmpcfg = s.hart.pmpcfg := rfl
@[simp] theorem State.setReservation_hart_pmpaddr (s : State) (q : Option Word) : (s.setReservation q).hart.pmpaddr = s.hart.pmpaddr := rfl
@[simp] theorem State.setReservation_hart_dcsrEbreakM (s : State) (q : Option Word) : (s.setReservation q).hart.dcsrEbreakM = s.hart.dcsrEbreakM := rfl
@[simp] theorem State.setReservation_hart_dcsrEbreakU (s : State) (q : Option Word) : (s.setReservation q).hart.dcsrEbreakU = s.hart.dcsrEbreakU := rfl
@[simp] theorem State.setReservation_hart_stale (s : State) (q : Option Word) : (s.setReservation q).hart.stale = s.hart.stale := rfl
@[simp] theorem State.setReservation_other (s : State) (q : Option Word) : (s.setReservation q).other = s.other := rfl
@[simp] theorem State.setReservation_mem (s : State) (q : Option Word) : (s.setReservation q).mem = s.mem := rfl
@[simp] theorem State.setReservation_plat (s : State) (q : Option Word) : (s.setReservation q).plat = s.plat := rfl
@[simp] theorem State.setReservation_turns (s : State) (q : Option Word) : (s.setReservation q).turns = s.turns := rfl
@[simp] theorem State.setReservation_script (s : State) (q : Option Word) : (s.setReservation q).script = s.script := rfl
@[simp] theorem State.setReservation_now (s : State) (q : Option Word) : (s.setReservation q).now = s.now := rfl
@[simp] theorem State.setReservation_reg (s : State) (q : Option Word) (r : RegIdx) : (s.setReservation q).reg r = s.reg r := rfl

/-! ### The end of an exclusive write -/

@[simp] theorem State.endExclusive_hart_id (s : State) : (s.endExclusive).hart.id = s.hart.id := rfl
@[simp] theorem State.endExclusive_hart_regs (s : State) : (s.endExclusive).hart.regs = s.hart.regs := rfl
@[simp] theorem State.endExclusive_hart_pc (s : State) : (s.endExclusive).hart.pc = s.hart.pc := rfl
@[simp] theorem State.endExclusive_hart_priv (s : State) : (s.endExclusive).hart.priv = s.hart.priv := rfl
@[simp] theorem State.endExclusive_hart_localMonitor (s : State) : (s.endExclusive).hart.localMonitor = false := rfl
@[simp] theorem State.endExclusive_hart_reservation (s : State) : (s.endExclusive).hart.reservation = none := rfl
@[simp] theorem State.endExclusive_hart_mstatus (s : State) : (s.endExclusive).hart.mstatus = s.hart.mstatus := rfl
@[simp] theorem State.endExclusive_hart_mie (s : State) : (s.endExclusive).hart.mie = s.hart.mie := rfl
@[simp] theorem State.endExclusive_hart_mtvec (s : State) : (s.endExclusive).hart.mtvec = s.hart.mtvec := rfl
@[simp] theorem State.endExclusive_hart_mscratch (s : State) : (s.endExclusive).hart.mscratch = s.hart.mscratch := rfl
@[simp] theorem State.endExclusive_hart_mepc (s : State) : (s.endExclusive).hart.mepc = s.hart.mepc := rfl
@[simp] theorem State.endExclusive_hart_mcause (s : State) : (s.endExclusive).hart.mcause = s.hart.mcause := rfl
@[simp] theorem State.endExclusive_hart_mcounteren (s : State) : (s.endExclusive).hart.mcounteren = s.hart.mcounteren := rfl
@[simp] theorem State.endExclusive_hart_mcountinhibit (s : State) : (s.endExclusive).hart.mcountinhibit = s.hart.mcountinhibit := rfl
@[simp] theorem State.endExclusive_hart_mcycle (s : State) : (s.endExclusive).hart.mcycle = s.hart.mcycle := rfl
@[simp] theorem State.endExclusive_hart_minstret (s : State) : (s.endExclusive).hart.minstret = s.hart.minstret := rfl
@[simp] theorem State.endExclusive_hart_pmpcfg (s : State) : (s.endExclusive).hart.pmpcfg = s.hart.pmpcfg := rfl
@[simp] theorem State.endExclusive_hart_pmpaddr (s : State) : (s.endExclusive).hart.pmpaddr = s.hart.pmpaddr := rfl
@[simp] theorem State.endExclusive_hart_dcsrEbreakM (s : State) : (s.endExclusive).hart.dcsrEbreakM = s.hart.dcsrEbreakM := rfl
@[simp] theorem State.endExclusive_hart_dcsrEbreakU (s : State) : (s.endExclusive).hart.dcsrEbreakU = s.hart.dcsrEbreakU := rfl
@[simp] theorem State.endExclusive_hart_stale (s : State) : (s.endExclusive).hart.stale = s.hart.stale := rfl
@[simp] theorem State.endExclusive_other (s : State) : (s.endExclusive).other = s.other := rfl
@[simp] theorem State.endExclusive_mem (s : State) : (s.endExclusive).mem = s.mem := rfl
@[simp] theorem State.endExclusive_plat (s : State) : (s.endExclusive).plat = s.plat := rfl
@[simp] theorem State.endExclusive_turns (s : State) : (s.endExclusive).turns = s.turns := rfl
@[simp] theorem State.endExclusive_script (s : State) : (s.endExclusive).script = s.script := rfl
@[simp] theorem State.endExclusive_now (s : State) : (s.endExclusive).now = s.now := rfl
@[simp] theorem State.endExclusive_reg (s : State) (r : RegIdx) : (s.endExclusive).reg r = s.reg r := rfl

/-! ### Retirement -/

@[simp] theorem State.retire_hart_id (s : State) : s.retire.hart.id = s.hart.id := by
  unfold State.retire; split <;> rfl
@[simp] theorem State.retire_hart_regs (s : State) : s.retire.hart.regs = s.hart.regs := by
  unfold State.retire; split <;> rfl
@[simp] theorem State.retire_hart_pc (s : State) : s.retire.hart.pc = s.hart.pc := by
  unfold State.retire; split <;> rfl
@[simp] theorem State.retire_hart_priv (s : State) : s.retire.hart.priv = s.hart.priv := by
  unfold State.retire; split <;> rfl
@[simp] theorem State.retire_hart_localMonitor (s : State) : s.retire.hart.localMonitor = s.hart.localMonitor := by
  unfold State.retire; split <;> rfl
@[simp] theorem State.retire_hart_reservation (s : State) : s.retire.hart.reservation = s.hart.reservation := by
  unfold State.retire; split <;> rfl
@[simp] theorem State.retire_hart_mstatus (s : State) : s.retire.hart.mstatus = s.hart.mstatus := by
  unfold State.retire; split <;> rfl
@[simp] theorem State.retire_hart_mie (s : State) : s.retire.hart.mie = s.hart.mie := by
  unfold State.retire; split <;> rfl
@[simp] theorem State.retire_hart_mtvec (s : State) : s.retire.hart.mtvec = s.hart.mtvec := by
  unfold State.retire; split <;> rfl
@[simp] theorem State.retire_hart_mscratch (s : State) : s.retire.hart.mscratch = s.hart.mscratch := by
  unfold State.retire; split <;> rfl
@[simp] theorem State.retire_hart_mepc (s : State) : s.retire.hart.mepc = s.hart.mepc := by
  unfold State.retire; split <;> rfl
@[simp] theorem State.retire_hart_mcause (s : State) : s.retire.hart.mcause = s.hart.mcause := by
  unfold State.retire; split <;> rfl
@[simp] theorem State.retire_hart_mcounteren (s : State) : s.retire.hart.mcounteren = s.hart.mcounteren := by
  unfold State.retire; split <;> rfl
@[simp] theorem State.retire_hart_mcountinhibit (s : State) : s.retire.hart.mcountinhibit = s.hart.mcountinhibit := by
  unfold State.retire; split <;> rfl
@[simp] theorem State.retire_hart_mcycle (s : State) : s.retire.hart.mcycle = s.hart.mcycle := by
  unfold State.retire; split <;> rfl
@[simp] theorem State.retire_hart_minstret (s : State) :
    s.retire.hart.minstret = if s.hart.instretStopped then s.hart.minstret else s.hart.minstret + 1 := by
  unfold State.retire; split <;> rfl
@[simp] theorem State.retire_hart_pmpcfg (s : State) : s.retire.hart.pmpcfg = s.hart.pmpcfg := by
  unfold State.retire; split <;> rfl
@[simp] theorem State.retire_hart_pmpaddr (s : State) : s.retire.hart.pmpaddr = s.hart.pmpaddr := by
  unfold State.retire; split <;> rfl
@[simp] theorem State.retire_hart_dcsrEbreakM (s : State) : s.retire.hart.dcsrEbreakM = s.hart.dcsrEbreakM := by
  unfold State.retire; split <;> rfl
@[simp] theorem State.retire_hart_dcsrEbreakU (s : State) : s.retire.hart.dcsrEbreakU = s.hart.dcsrEbreakU := by
  unfold State.retire; split <;> rfl
@[simp] theorem State.retire_hart_stale (s : State) : s.retire.hart.stale = s.hart.stale := by
  unfold State.retire; split <;> rfl
@[simp] theorem State.retire_other (s : State) : s.retire.other = s.other := by unfold State.retire; split <;> rfl
@[simp] theorem State.retire_mem (s : State) : s.retire.mem = s.mem := by unfold State.retire; split <;> rfl
@[simp] theorem State.retire_plat (s : State) : s.retire.plat = s.plat := by unfold State.retire; split <;> rfl
@[simp] theorem State.retire_turns (s : State) : s.retire.turns = s.turns := by unfold State.retire; split <;> rfl
@[simp] theorem State.retire_script (s : State) : s.retire.script = s.script := by unfold State.retire; split <;> rfl
@[simp] theorem State.retire_now (s : State) : s.retire.now = s.now := by unfold State.retire; split <;> rfl
@[simp] theorem State.retire_reg (s : State) (r : RegIdx) : s.retire.reg r = s.reg r := by unfold State.retire; split <;> rfl

/-! ### Traps -/

@[simp] theorem Hart.enterTrap_id (h : Hart) (t : Trap) : (h.enterTrap t).id = h.id := rfl
@[simp] theorem Hart.enterTrap_regs (h : Hart) (t : Trap) : (h.enterTrap t).regs = h.regs := rfl
@[simp] theorem Hart.enterTrap_pc (h : Hart) (t : Trap) : (h.enterTrap t).pc = h.trapTarget t := rfl
@[simp] theorem Hart.enterTrap_priv (h : Hart) (t : Trap) : (h.enterTrap t).priv = .machine := rfl
@[simp] theorem Hart.enterTrap_localMonitor (h : Hart) (t : Trap) : (h.enterTrap t).localMonitor = false := rfl
@[simp] theorem Hart.enterTrap_reservation (h : Hart) (t : Trap) : (h.enterTrap t).reservation = h.reservation := rfl
@[simp] theorem Hart.enterTrap_mstatus (h : Hart) (t : Trap) : (h.enterTrap t).mstatus = { h.mstatus with mpie := h.mstatus.mie, mie := false, mpp := h.priv } := rfl
@[simp] theorem Hart.enterTrap_mie (h : Hart) (t : Trap) : (h.enterTrap t).mie = h.mie := rfl
@[simp] theorem Hart.enterTrap_mtvec (h : Hart) (t : Trap) : (h.enterTrap t).mtvec = h.mtvec := rfl
@[simp] theorem Hart.enterTrap_mscratch (h : Hart) (t : Trap) : (h.enterTrap t).mscratch = h.mscratch := rfl
@[simp] theorem Hart.enterTrap_mepc (h : Hart) (t : Trap) : (h.enterTrap t).mepc = h.pc := rfl
@[simp] theorem Hart.enterTrap_mcause (h : Hart) (t : Trap) : (h.enterTrap t).mcause = t.mcause := rfl
@[simp] theorem Hart.enterTrap_mcounteren (h : Hart) (t : Trap) : (h.enterTrap t).mcounteren = h.mcounteren := rfl
@[simp] theorem Hart.enterTrap_mcountinhibit (h : Hart) (t : Trap) : (h.enterTrap t).mcountinhibit = h.mcountinhibit := rfl
@[simp] theorem Hart.enterTrap_mcycle (h : Hart) (t : Trap) : (h.enterTrap t).mcycle = h.mcycle := rfl
@[simp] theorem Hart.enterTrap_minstret (h : Hart) (t : Trap) : (h.enterTrap t).minstret = h.minstret := rfl
@[simp] theorem Hart.enterTrap_pmpcfg (h : Hart) (t : Trap) : (h.enterTrap t).pmpcfg = h.pmpcfg := rfl
@[simp] theorem Hart.enterTrap_pmpaddr (h : Hart) (t : Trap) : (h.enterTrap t).pmpaddr = h.pmpaddr := rfl
@[simp] theorem Hart.enterTrap_dcsrEbreakM (h : Hart) (t : Trap) : (h.enterTrap t).dcsrEbreakM = h.dcsrEbreakM := rfl
@[simp] theorem Hart.enterTrap_dcsrEbreakU (h : Hart) (t : Trap) : (h.enterTrap t).dcsrEbreakU = h.dcsrEbreakU := rfl
@[simp] theorem Hart.enterTrap_stale (h : Hart) (t : Trap) : (h.enterTrap t).stale = h.stale := rfl
@[simp] theorem Hart.enterTrap_reg (h : Hart) (t : Trap) (r : RegIdx) : (h.enterTrap t).reg r = h.reg r := rfl
@[simp] theorem enterTrap_hart (s : State) (t : Trap) : (enterTrap t s).hart = s.hart.enterTrap t := rfl
@[simp] theorem enterTrap_reg (s : State) (t : Trap) (r : RegIdx) : (enterTrap t s).reg r = s.reg r := rfl
@[simp] theorem enterTrap_other (s : State) (t : Trap) : (enterTrap t s).other = s.other := rfl
@[simp] theorem enterTrap_mem (s : State) (t : Trap) : (enterTrap t s).mem = s.mem := rfl
@[simp] theorem enterTrap_plat (s : State) (t : Trap) : (enterTrap t s).plat = s.plat := rfl
@[simp] theorem enterTrap_turns (s : State) (t : Trap) : (enterTrap t s).turns = s.turns := rfl
@[simp] theorem enterTrap_script (s : State) (t : Trap) : (enterTrap t s).script = s.script := rfl
@[simp] theorem enterTrap_now (s : State) (t : Trap) : (enterTrap t s).now = s.now := rfl

/-! ### Stores -/

@[simp] theorem Hart.noteStore_id (h : Hart) (a : Nat) (v : Byte) : (h.noteStore a v).id = h.id := rfl
@[simp] theorem Hart.noteStore_regs (h : Hart) (a : Nat) (v : Byte) : (h.noteStore a v).regs = h.regs := rfl
@[simp] theorem Hart.noteStore_pc (h : Hart) (a : Nat) (v : Byte) : (h.noteStore a v).pc = h.pc := rfl
@[simp] theorem Hart.noteStore_priv (h : Hart) (a : Nat) (v : Byte) : (h.noteStore a v).priv = h.priv := rfl
@[simp] theorem Hart.noteStore_localMonitor (h : Hart) (a : Nat) (v : Byte) : (h.noteStore a v).localMonitor = h.localMonitor := rfl
@[simp] theorem Hart.noteStore_reservation (h : Hart) (a : Nat) (v : Byte) : (h.noteStore a v).reservation = h.reservation := rfl
@[simp] theorem Hart.noteStore_mstatus (h : Hart) (a : Nat) (v : Byte) : (h.noteStore a v).mstatus = h.mstatus := rfl
@[simp] theorem Hart.noteStore_mie (h : Hart) (a : Nat) (v : Byte) : (h.noteStore a v).mie = h.mie := rfl
@[simp] theorem Hart.noteStore_mtvec (h : Hart) (a : Nat) (v : Byte) : (h.noteStore a v).mtvec = h.mtvec := rfl
@[simp] theorem Hart.noteStore_mscratch (h : Hart) (a : Nat) (v : Byte) : (h.noteStore a v).mscratch = h.mscratch := rfl
@[simp] theorem Hart.noteStore_mepc (h : Hart) (a : Nat) (v : Byte) : (h.noteStore a v).mepc = h.mepc := rfl
@[simp] theorem Hart.noteStore_mcause (h : Hart) (a : Nat) (v : Byte) : (h.noteStore a v).mcause = h.mcause := rfl
@[simp] theorem Hart.noteStore_mcounteren (h : Hart) (a : Nat) (v : Byte) : (h.noteStore a v).mcounteren = h.mcounteren := rfl
@[simp] theorem Hart.noteStore_mcountinhibit (h : Hart) (a : Nat) (v : Byte) : (h.noteStore a v).mcountinhibit = h.mcountinhibit := rfl
@[simp] theorem Hart.noteStore_mcycle (h : Hart) (a : Nat) (v : Byte) : (h.noteStore a v).mcycle = h.mcycle := rfl
@[simp] theorem Hart.noteStore_minstret (h : Hart) (a : Nat) (v : Byte) : (h.noteStore a v).minstret = h.minstret := rfl
@[simp] theorem Hart.noteStore_pmpcfg (h : Hart) (a : Nat) (v : Byte) : (h.noteStore a v).pmpcfg = h.pmpcfg := rfl
@[simp] theorem Hart.noteStore_pmpaddr (h : Hart) (a : Nat) (v : Byte) : (h.noteStore a v).pmpaddr = h.pmpaddr := rfl
@[simp] theorem Hart.noteStore_dcsrEbreakM (h : Hart) (a : Nat) (v : Byte) : (h.noteStore a v).dcsrEbreakM = h.dcsrEbreakM := rfl
@[simp] theorem Hart.noteStore_dcsrEbreakU (h : Hart) (a : Nat) (v : Byte) : (h.noteStore a v).dcsrEbreakU = h.dcsrEbreakU := rfl
@[simp] theorem Hart.noteStore_stale (h : Hart) (a : Nat) (v : Byte) : (h.noteStore a v).stale = (a, v) :: h.stale := rfl
@[simp] theorem Hart.noteStore_reg (h : Hart) (a : Nat) (v : Byte) (r : RegIdx) : (h.noteStore a v).reg r = h.reg r := rfl
@[simp] theorem State.storeByte_hart (s : State) (d : Bool) (a : Word) (v : Byte) :
    (s.storeByte d a v).hart = s.hart.noteStore a.toNat (s.mem.read8 a) := rfl
@[simp] theorem State.storeByte_other (s : State) (d : Bool) (a : Word) (v : Byte) :
    (s.storeByte d a v).other = s.other.noteStore a.toNat (s.mem.read8 a) := rfl
@[simp] theorem State.storeByte_mem (s : State) (d : Bool) (a : Word) (v : Byte) :
    (s.storeByte d a v).mem = if d then s.mem else s.mem.write a.toNat v := rfl
@[simp] theorem State.storeByte_plat (s : State) (d : Bool) (a : Word) (v : Byte) : (s.storeByte d a v).plat = s.plat := rfl
@[simp] theorem State.storeByte_turns (s : State) (d : Bool) (a : Word) (v : Byte) : (s.storeByte d a v).turns = s.turns := rfl
@[simp] theorem State.storeByte_script (s : State) (d : Bool) (a : Word) (v : Byte) : (s.storeByte d a v).script = s.script := rfl
@[simp] theorem State.storeByte_now (s : State) (d : Bool) (a : Word) (v : Byte) : (s.storeByte d a v).now = s.now := rfl
@[simp] theorem State.storeByte_reg (s : State) (d : Bool) (a : Word) (v : Byte) (r : RegIdx) : (s.storeByte d a v).reg r = s.reg r := rfl
@[simp] theorem Hart.loseReservation_id (p : Platform) (h : Hart) (a : Word) : (h.loseReservation p a).id = h.id := by
  unfold Hart.loseReservation; split <;> rfl
@[simp] theorem Hart.loseReservation_regs (p : Platform) (h : Hart) (a : Word) : (h.loseReservation p a).regs = h.regs := by
  unfold Hart.loseReservation; split <;> rfl
@[simp] theorem Hart.loseReservation_pc (p : Platform) (h : Hart) (a : Word) : (h.loseReservation p a).pc = h.pc := by
  unfold Hart.loseReservation; split <;> rfl
@[simp] theorem Hart.loseReservation_priv (p : Platform) (h : Hart) (a : Word) : (h.loseReservation p a).priv = h.priv := by
  unfold Hart.loseReservation; split <;> rfl
@[simp] theorem Hart.loseReservation_localMonitor (p : Platform) (h : Hart) (a : Word) : (h.loseReservation p a).localMonitor = h.localMonitor := by
  unfold Hart.loseReservation; split <;> rfl
@[simp] theorem Hart.loseReservation_mstatus (p : Platform) (h : Hart) (a : Word) : (h.loseReservation p a).mstatus = h.mstatus := by
  unfold Hart.loseReservation; split <;> rfl
@[simp] theorem Hart.loseReservation_mie (p : Platform) (h : Hart) (a : Word) : (h.loseReservation p a).mie = h.mie := by
  unfold Hart.loseReservation; split <;> rfl
@[simp] theorem Hart.loseReservation_mtvec (p : Platform) (h : Hart) (a : Word) : (h.loseReservation p a).mtvec = h.mtvec := by
  unfold Hart.loseReservation; split <;> rfl
@[simp] theorem Hart.loseReservation_mscratch (p : Platform) (h : Hart) (a : Word) : (h.loseReservation p a).mscratch = h.mscratch := by
  unfold Hart.loseReservation; split <;> rfl
@[simp] theorem Hart.loseReservation_mepc (p : Platform) (h : Hart) (a : Word) : (h.loseReservation p a).mepc = h.mepc := by
  unfold Hart.loseReservation; split <;> rfl
@[simp] theorem Hart.loseReservation_mcause (p : Platform) (h : Hart) (a : Word) : (h.loseReservation p a).mcause = h.mcause := by
  unfold Hart.loseReservation; split <;> rfl
@[simp] theorem Hart.loseReservation_mcounteren (p : Platform) (h : Hart) (a : Word) : (h.loseReservation p a).mcounteren = h.mcounteren := by
  unfold Hart.loseReservation; split <;> rfl
@[simp] theorem Hart.loseReservation_mcountinhibit (p : Platform) (h : Hart) (a : Word) : (h.loseReservation p a).mcountinhibit = h.mcountinhibit := by
  unfold Hart.loseReservation; split <;> rfl
@[simp] theorem Hart.loseReservation_mcycle (p : Platform) (h : Hart) (a : Word) : (h.loseReservation p a).mcycle = h.mcycle := by
  unfold Hart.loseReservation; split <;> rfl
@[simp] theorem Hart.loseReservation_minstret (p : Platform) (h : Hart) (a : Word) : (h.loseReservation p a).minstret = h.minstret := by
  unfold Hart.loseReservation; split <;> rfl
@[simp] theorem Hart.loseReservation_pmpcfg (p : Platform) (h : Hart) (a : Word) : (h.loseReservation p a).pmpcfg = h.pmpcfg := by
  unfold Hart.loseReservation; split <;> rfl
@[simp] theorem Hart.loseReservation_pmpaddr (p : Platform) (h : Hart) (a : Word) : (h.loseReservation p a).pmpaddr = h.pmpaddr := by
  unfold Hart.loseReservation; split <;> rfl
@[simp] theorem Hart.loseReservation_dcsrEbreakM (p : Platform) (h : Hart) (a : Word) : (h.loseReservation p a).dcsrEbreakM = h.dcsrEbreakM := by
  unfold Hart.loseReservation; split <;> rfl
@[simp] theorem Hart.loseReservation_dcsrEbreakU (p : Platform) (h : Hart) (a : Word) : (h.loseReservation p a).dcsrEbreakU = h.dcsrEbreakU := by
  unfold Hart.loseReservation; split <;> rfl
@[simp] theorem Hart.loseReservation_stale (p : Platform) (h : Hart) (a : Word) : (h.loseReservation p a).stale = h.stale := by
  unfold Hart.loseReservation; split <;> rfl
theorem Hart.loseReservation_reservation (p : Platform) (h : Hart) (a : Word) :
    (h.loseReservation p a).reservation = if h.reservedAt p a then none else h.reservation := by
  unfold Hart.loseReservation; split <;> rfl
@[simp] theorem Hart.loseReservation_reg (p : Platform) (h : Hart) (a : Word) (r : RegIdx) :
    (h.loseReservation p a).reg r = h.reg r := by unfold Hart.loseReservation; split <;> rfl
@[simp] theorem State.endOtherReservation_hart (s : State) (a : Word) : (s.endOtherReservation a).hart = s.hart := rfl
@[simp] theorem State.endOtherReservation_other (s : State) (a : Word) :
    (s.endOtherReservation a).other = s.other.loseReservation s.plat a := rfl
@[simp] theorem State.endOtherReservation_mem (s : State) (a : Word) : (s.endOtherReservation a).mem = s.mem := rfl
@[simp] theorem State.endOtherReservation_plat (s : State) (a : Word) : (s.endOtherReservation a).plat = s.plat := rfl
@[simp] theorem State.endOtherReservation_turns (s : State) (a : Word) : (s.endOtherReservation a).turns = s.turns := rfl
@[simp] theorem State.endOtherReservation_script (s : State) (a : Word) : (s.endOtherReservation a).script = s.script := rfl
@[simp] theorem State.endOtherReservation_now (s : State) (a : Word) : (s.endOtherReservation a).now = s.now := rfl
@[simp] theorem State.endOtherReservation_reg (s : State) (a : Word) (r : RegIdx) :
    (s.endOtherReservation a).reg r = s.reg r := rfl

/-! ### Return from a trap -/

@[simp] theorem Hart.leaveTrap_id (h : Hart) : h.leaveTrap.id = h.id := rfl
@[simp] theorem Hart.leaveTrap_regs (h : Hart) : h.leaveTrap.regs = h.regs := rfl
@[simp] theorem Hart.leaveTrap_pc (h : Hart) : h.leaveTrap.pc = h.mepc := rfl
@[simp] theorem Hart.leaveTrap_priv (h : Hart) : h.leaveTrap.priv = h.mstatus.mpp := rfl
@[simp] theorem Hart.leaveTrap_localMonitor (h : Hart) : h.leaveTrap.localMonitor = h.localMonitor := rfl
@[simp] theorem Hart.leaveTrap_reservation (h : Hart) : h.leaveTrap.reservation = h.reservation := rfl
@[simp] theorem Hart.leaveTrap_mstatus (h : Hart) : h.leaveTrap.mstatus =
    { h.mstatus with mie := h.mstatus.mpie, mpie := true, mpp := .user, mprv := h.mstatus.mprv && h.mstatus.mpp == .machine } := rfl
@[simp] theorem Hart.leaveTrap_mie (h : Hart) : h.leaveTrap.mie = h.mie := rfl
@[simp] theorem Hart.leaveTrap_mtvec (h : Hart) : h.leaveTrap.mtvec = h.mtvec := rfl
@[simp] theorem Hart.leaveTrap_mscratch (h : Hart) : h.leaveTrap.mscratch = h.mscratch := rfl
@[simp] theorem Hart.leaveTrap_mepc (h : Hart) : h.leaveTrap.mepc = h.mepc := rfl
@[simp] theorem Hart.leaveTrap_mcause (h : Hart) : h.leaveTrap.mcause = h.mcause := rfl
@[simp] theorem Hart.leaveTrap_mcounteren (h : Hart) : h.leaveTrap.mcounteren = h.mcounteren := rfl
@[simp] theorem Hart.leaveTrap_mcountinhibit (h : Hart) : h.leaveTrap.mcountinhibit = h.mcountinhibit := rfl
@[simp] theorem Hart.leaveTrap_mcycle (h : Hart) : h.leaveTrap.mcycle = h.mcycle := rfl
@[simp] theorem Hart.leaveTrap_minstret (h : Hart) : h.leaveTrap.minstret = h.minstret := rfl
@[simp] theorem Hart.leaveTrap_pmpcfg (h : Hart) : h.leaveTrap.pmpcfg = h.pmpcfg := rfl
@[simp] theorem Hart.leaveTrap_pmpaddr (h : Hart) : h.leaveTrap.pmpaddr = h.pmpaddr := rfl
@[simp] theorem Hart.leaveTrap_dcsrEbreakM (h : Hart) : h.leaveTrap.dcsrEbreakM = h.dcsrEbreakM := rfl
@[simp] theorem Hart.leaveTrap_dcsrEbreakU (h : Hart) : h.leaveTrap.dcsrEbreakU = h.dcsrEbreakU := rfl
@[simp] theorem Hart.leaveTrap_stale (h : Hart) : h.leaveTrap.stale = h.stale := rfl
@[simp] theorem Hart.leaveTrap_reg (h : Hart) (r : RegIdx) : h.leaveTrap.reg r = h.reg r := rfl
@[simp] theorem leaveTrap_hart (s : State) : (leaveTrap s).hart = s.hart.leaveTrap := rfl
@[simp] theorem leaveTrap_other (s : State) : (leaveTrap s).other = s.other := rfl
@[simp] theorem leaveTrap_mem (s : State) : (leaveTrap s).mem = s.mem := rfl
@[simp] theorem leaveTrap_plat (s : State) : (leaveTrap s).plat = s.plat := rfl
@[simp] theorem leaveTrap_turns (s : State) : (leaveTrap s).turns = s.turns := rfl
@[simp] theorem leaveTrap_script (s : State) : (leaveTrap s).script = s.script := rfl
@[simp] theorem leaveTrap_now (s : State) : (leaveTrap s).now = s.now := rfl

/-! ### The set W emptied -/

@[simp] theorem State.clearStale_hart_id (s : State) : (s.clearStale).hart.id = s.hart.id := rfl
@[simp] theorem State.clearStale_hart_regs (s : State) : (s.clearStale).hart.regs = s.hart.regs := rfl
@[simp] theorem State.clearStale_hart_pc (s : State) : (s.clearStale).hart.pc = s.hart.pc := rfl
@[simp] theorem State.clearStale_hart_priv (s : State) : (s.clearStale).hart.priv = s.hart.priv := rfl
@[simp] theorem State.clearStale_hart_localMonitor (s : State) : (s.clearStale).hart.localMonitor = s.hart.localMonitor := rfl
@[simp] theorem State.clearStale_hart_reservation (s : State) : (s.clearStale).hart.reservation = s.hart.reservation := rfl
@[simp] theorem State.clearStale_hart_mstatus (s : State) : (s.clearStale).hart.mstatus = s.hart.mstatus := rfl
@[simp] theorem State.clearStale_hart_mie (s : State) : (s.clearStale).hart.mie = s.hart.mie := rfl
@[simp] theorem State.clearStale_hart_mtvec (s : State) : (s.clearStale).hart.mtvec = s.hart.mtvec := rfl
@[simp] theorem State.clearStale_hart_mscratch (s : State) : (s.clearStale).hart.mscratch = s.hart.mscratch := rfl
@[simp] theorem State.clearStale_hart_mepc (s : State) : (s.clearStale).hart.mepc = s.hart.mepc := rfl
@[simp] theorem State.clearStale_hart_mcause (s : State) : (s.clearStale).hart.mcause = s.hart.mcause := rfl
@[simp] theorem State.clearStale_hart_mcounteren (s : State) : (s.clearStale).hart.mcounteren = s.hart.mcounteren := rfl
@[simp] theorem State.clearStale_hart_mcountinhibit (s : State) : (s.clearStale).hart.mcountinhibit = s.hart.mcountinhibit := rfl
@[simp] theorem State.clearStale_hart_mcycle (s : State) : (s.clearStale).hart.mcycle = s.hart.mcycle := rfl
@[simp] theorem State.clearStale_hart_minstret (s : State) : (s.clearStale).hart.minstret = s.hart.minstret := rfl
@[simp] theorem State.clearStale_hart_pmpcfg (s : State) : (s.clearStale).hart.pmpcfg = s.hart.pmpcfg := rfl
@[simp] theorem State.clearStale_hart_pmpaddr (s : State) : (s.clearStale).hart.pmpaddr = s.hart.pmpaddr := rfl
@[simp] theorem State.clearStale_hart_dcsrEbreakM (s : State) : (s.clearStale).hart.dcsrEbreakM = s.hart.dcsrEbreakM := rfl
@[simp] theorem State.clearStale_hart_dcsrEbreakU (s : State) : (s.clearStale).hart.dcsrEbreakU = s.hart.dcsrEbreakU := rfl
@[simp] theorem State.clearStale_hart_stale (s : State) : (s.clearStale).hart.stale = [] := rfl
@[simp] theorem State.clearStale_other (s : State) : (s.clearStale).other = s.other := rfl
@[simp] theorem State.clearStale_mem (s : State) : (s.clearStale).mem = s.mem := rfl
@[simp] theorem State.clearStale_plat (s : State) : (s.clearStale).plat = s.plat := rfl
@[simp] theorem State.clearStale_turns (s : State) : (s.clearStale).turns = s.turns := rfl
@[simp] theorem State.clearStale_script (s : State) : (s.clearStale).script = s.script := rfl
@[simp] theorem State.clearStale_now (s : State) : (s.clearStale).now = s.now := rfl
@[simp] theorem State.clearStale_reg (s : State) (r : RegIdx) : (s.clearStale).reg r = s.reg r := rfl

/-! ### The move to the next step -/

@[simp] theorem Hart.passCycle_id (h : Hart) (c : BitVec 64) : (h.passCycle c).id = h.id := by
  unfold Hart.passCycle; split <;> rfl
@[simp] theorem Hart.passCycle_regs (h : Hart) (c : BitVec 64) : (h.passCycle c).regs = h.regs := by
  unfold Hart.passCycle; split <;> rfl
@[simp] theorem Hart.passCycle_pc (h : Hart) (c : BitVec 64) : (h.passCycle c).pc = h.pc := by
  unfold Hart.passCycle; split <;> rfl
@[simp] theorem Hart.passCycle_priv (h : Hart) (c : BitVec 64) : (h.passCycle c).priv = h.priv := by
  unfold Hart.passCycle; split <;> rfl
@[simp] theorem Hart.passCycle_localMonitor (h : Hart) (c : BitVec 64) : (h.passCycle c).localMonitor = h.localMonitor := by
  unfold Hart.passCycle; split <;> rfl
@[simp] theorem Hart.passCycle_reservation (h : Hart) (c : BitVec 64) : (h.passCycle c).reservation = h.reservation := by
  unfold Hart.passCycle; split <;> rfl
@[simp] theorem Hart.passCycle_mstatus (h : Hart) (c : BitVec 64) : (h.passCycle c).mstatus = h.mstatus := by
  unfold Hart.passCycle; split <;> rfl
@[simp] theorem Hart.passCycle_mie (h : Hart) (c : BitVec 64) : (h.passCycle c).mie = h.mie := by
  unfold Hart.passCycle; split <;> rfl
@[simp] theorem Hart.passCycle_mtvec (h : Hart) (c : BitVec 64) : (h.passCycle c).mtvec = h.mtvec := by
  unfold Hart.passCycle; split <;> rfl
@[simp] theorem Hart.passCycle_mscratch (h : Hart) (c : BitVec 64) : (h.passCycle c).mscratch = h.mscratch := by
  unfold Hart.passCycle; split <;> rfl
@[simp] theorem Hart.passCycle_mepc (h : Hart) (c : BitVec 64) : (h.passCycle c).mepc = h.mepc := by
  unfold Hart.passCycle; split <;> rfl
@[simp] theorem Hart.passCycle_mcause (h : Hart) (c : BitVec 64) : (h.passCycle c).mcause = h.mcause := by
  unfold Hart.passCycle; split <;> rfl
@[simp] theorem Hart.passCycle_mcounteren (h : Hart) (c : BitVec 64) : (h.passCycle c).mcounteren = h.mcounteren := by
  unfold Hart.passCycle; split <;> rfl
@[simp] theorem Hart.passCycle_mcountinhibit (h : Hart) (c : BitVec 64) : (h.passCycle c).mcountinhibit = h.mcountinhibit := by
  unfold Hart.passCycle; split <;> rfl
@[simp] theorem Hart.passCycle_mcycle (h : Hart) (c : BitVec 64) :
    (h.passCycle c).mcycle = if h.cycleStopped then h.mcycle else c := by
  unfold Hart.passCycle; split <;> rfl
@[simp] theorem Hart.passCycle_minstret (h : Hart) (c : BitVec 64) : (h.passCycle c).minstret = h.minstret := by
  unfold Hart.passCycle; split <;> rfl
@[simp] theorem Hart.passCycle_pmpcfg (h : Hart) (c : BitVec 64) : (h.passCycle c).pmpcfg = h.pmpcfg := by
  unfold Hart.passCycle; split <;> rfl
@[simp] theorem Hart.passCycle_pmpaddr (h : Hart) (c : BitVec 64) : (h.passCycle c).pmpaddr = h.pmpaddr := by
  unfold Hart.passCycle; split <;> rfl
@[simp] theorem Hart.passCycle_dcsrEbreakM (h : Hart) (c : BitVec 64) : (h.passCycle c).dcsrEbreakM = h.dcsrEbreakM := by
  unfold Hart.passCycle; split <;> rfl
@[simp] theorem Hart.passCycle_dcsrEbreakU (h : Hart) (c : BitVec 64) : (h.passCycle c).dcsrEbreakU = h.dcsrEbreakU := by
  unfold Hart.passCycle; split <;> rfl
@[simp] theorem Hart.passCycle_stale (h : Hart) (c : BitVec 64) : (h.passCycle c).stale = h.stale := by
  unfold Hart.passCycle; split <;> rfl
@[simp] theorem Hart.passCycle_reg (h : Hart) (c : BitVec 64) (r : RegIdx) : (h.passCycle c).reg r = h.reg r := by
  unfold Hart.passCycle; split <;> rfl
@[simp] theorem State.countCycle_hart (s : State) : s.countCycle.hart = s.hart.passCycle s.inputs.cycle := rfl
@[simp] theorem State.countCycle_other (s : State) : s.countCycle.other = s.other := rfl
@[simp] theorem State.countCycle_mem (s : State) : s.countCycle.mem = s.mem := rfl
@[simp] theorem State.countCycle_plat (s : State) : s.countCycle.plat = s.plat := rfl
@[simp] theorem State.countCycle_turns (s : State) : s.countCycle.turns = s.turns := rfl
@[simp] theorem State.countCycle_script (s : State) : s.countCycle.script = s.script := rfl
@[simp] theorem State.countCycle_now (s : State) : s.countCycle.now = s.now := rfl
@[simp] theorem State.nextInputs_hart (s : State) : s.nextInputs.hart = s.hart := rfl
@[simp] theorem State.nextInputs_other (s : State) : s.nextInputs.other = s.other := rfl
@[simp] theorem State.nextInputs_mem (s : State) : s.nextInputs.mem = s.mem := rfl
@[simp] theorem State.nextInputs_plat (s : State) : s.nextInputs.plat = s.plat := rfl
@[simp] theorem State.nextInputs_turns (s : State) : s.nextInputs.turns = s.turns := rfl
@[simp] theorem State.nextInputs_script (s : State) : s.nextInputs.script = s.script.tail := rfl
@[simp] theorem State.nextInputs_now (s : State) : s.nextInputs.now = s.now + 1 := rfl

/-! ### A CSR written -/

@[simp] theorem csrWrite_other (c : Csr) (v : Word) (s : State) : (csrWrite c v s).other = s.other := rfl
@[simp] theorem csrWrite_mem (c : Csr) (v : Word) (s : State) : (csrWrite c v s).mem = s.mem := rfl
@[simp] theorem csrWrite_plat (c : Csr) (v : Word) (s : State) : (csrWrite c v s).plat = s.plat := rfl
@[simp] theorem csrWrite_turns (c : Csr) (v : Word) (s : State) : (csrWrite c v s).turns = s.turns := rfl
@[simp] theorem csrWrite_script (c : Csr) (v : Word) (s : State) : (csrWrite c v s).script = s.script := rfl
@[simp] theorem csrWrite_now (c : Csr) (v : Word) (s : State) : (csrWrite c v s).now = s.now := rfl
@[simp] theorem csrWrite_hart (c : Csr) (v : Word) (s : State) : (csrWrite c v s).hart = s.hart.csrWrite s.plat c v := rfl
@[simp] theorem Hart.setPmpCfgByte_id (p : Platform) (h : Hart) (n : Fin 16) (v : Byte) :
    (h.setPmpCfgByte p n v).id = h.id := by unfold Hart.setPmpCfgByte; split <;> rfl
@[simp] theorem Hart.setPmpCfg_id (p : Platform) (h : Hart) (k : Fin 4) (v : Word) : (h.setPmpCfg p k v).id = h.id := by
  simp [Hart.setPmpCfg]
@[simp] theorem Hart.setPmpCfgByte_regs (p : Platform) (h : Hart) (n : Fin 16) (v : Byte) :
    (h.setPmpCfgByte p n v).regs = h.regs := by unfold Hart.setPmpCfgByte; split <;> rfl
@[simp] theorem Hart.setPmpCfg_regs (p : Platform) (h : Hart) (k : Fin 4) (v : Word) : (h.setPmpCfg p k v).regs = h.regs := by
  simp [Hart.setPmpCfg]
@[simp] theorem Hart.setPmpCfgByte_pc (p : Platform) (h : Hart) (n : Fin 16) (v : Byte) :
    (h.setPmpCfgByte p n v).pc = h.pc := by unfold Hart.setPmpCfgByte; split <;> rfl
@[simp] theorem Hart.setPmpCfg_pc (p : Platform) (h : Hart) (k : Fin 4) (v : Word) : (h.setPmpCfg p k v).pc = h.pc := by
  simp [Hart.setPmpCfg]
@[simp] theorem Hart.setPmpCfgByte_priv (p : Platform) (h : Hart) (n : Fin 16) (v : Byte) :
    (h.setPmpCfgByte p n v).priv = h.priv := by unfold Hart.setPmpCfgByte; split <;> rfl
@[simp] theorem Hart.setPmpCfg_priv (p : Platform) (h : Hart) (k : Fin 4) (v : Word) : (h.setPmpCfg p k v).priv = h.priv := by
  simp [Hart.setPmpCfg]
@[simp] theorem Hart.setPmpCfgByte_localMonitor (p : Platform) (h : Hart) (n : Fin 16) (v : Byte) :
    (h.setPmpCfgByte p n v).localMonitor = h.localMonitor := by unfold Hart.setPmpCfgByte; split <;> rfl
@[simp] theorem Hart.setPmpCfg_localMonitor (p : Platform) (h : Hart) (k : Fin 4) (v : Word) : (h.setPmpCfg p k v).localMonitor = h.localMonitor := by
  simp [Hart.setPmpCfg]
@[simp] theorem Hart.setPmpCfgByte_reservation (p : Platform) (h : Hart) (n : Fin 16) (v : Byte) :
    (h.setPmpCfgByte p n v).reservation = h.reservation := by unfold Hart.setPmpCfgByte; split <;> rfl
@[simp] theorem Hart.setPmpCfg_reservation (p : Platform) (h : Hart) (k : Fin 4) (v : Word) : (h.setPmpCfg p k v).reservation = h.reservation := by
  simp [Hart.setPmpCfg]
@[simp] theorem Hart.setPmpCfgByte_mstatus (p : Platform) (h : Hart) (n : Fin 16) (v : Byte) :
    (h.setPmpCfgByte p n v).mstatus = h.mstatus := by unfold Hart.setPmpCfgByte; split <;> rfl
@[simp] theorem Hart.setPmpCfg_mstatus (p : Platform) (h : Hart) (k : Fin 4) (v : Word) : (h.setPmpCfg p k v).mstatus = h.mstatus := by
  simp [Hart.setPmpCfg]
@[simp] theorem Hart.setPmpCfgByte_mie (p : Platform) (h : Hart) (n : Fin 16) (v : Byte) :
    (h.setPmpCfgByte p n v).mie = h.mie := by unfold Hart.setPmpCfgByte; split <;> rfl
@[simp] theorem Hart.setPmpCfg_mie (p : Platform) (h : Hart) (k : Fin 4) (v : Word) : (h.setPmpCfg p k v).mie = h.mie := by
  simp [Hart.setPmpCfg]
@[simp] theorem Hart.setPmpCfgByte_mtvec (p : Platform) (h : Hart) (n : Fin 16) (v : Byte) :
    (h.setPmpCfgByte p n v).mtvec = h.mtvec := by unfold Hart.setPmpCfgByte; split <;> rfl
@[simp] theorem Hart.setPmpCfg_mtvec (p : Platform) (h : Hart) (k : Fin 4) (v : Word) : (h.setPmpCfg p k v).mtvec = h.mtvec := by
  simp [Hart.setPmpCfg]
@[simp] theorem Hart.setPmpCfgByte_mscratch (p : Platform) (h : Hart) (n : Fin 16) (v : Byte) :
    (h.setPmpCfgByte p n v).mscratch = h.mscratch := by unfold Hart.setPmpCfgByte; split <;> rfl
@[simp] theorem Hart.setPmpCfg_mscratch (p : Platform) (h : Hart) (k : Fin 4) (v : Word) : (h.setPmpCfg p k v).mscratch = h.mscratch := by
  simp [Hart.setPmpCfg]
@[simp] theorem Hart.setPmpCfgByte_mepc (p : Platform) (h : Hart) (n : Fin 16) (v : Byte) :
    (h.setPmpCfgByte p n v).mepc = h.mepc := by unfold Hart.setPmpCfgByte; split <;> rfl
@[simp] theorem Hart.setPmpCfg_mepc (p : Platform) (h : Hart) (k : Fin 4) (v : Word) : (h.setPmpCfg p k v).mepc = h.mepc := by
  simp [Hart.setPmpCfg]
@[simp] theorem Hart.setPmpCfgByte_mcause (p : Platform) (h : Hart) (n : Fin 16) (v : Byte) :
    (h.setPmpCfgByte p n v).mcause = h.mcause := by unfold Hart.setPmpCfgByte; split <;> rfl
@[simp] theorem Hart.setPmpCfg_mcause (p : Platform) (h : Hart) (k : Fin 4) (v : Word) : (h.setPmpCfg p k v).mcause = h.mcause := by
  simp [Hart.setPmpCfg]
@[simp] theorem Hart.setPmpCfgByte_mcounteren (p : Platform) (h : Hart) (n : Fin 16) (v : Byte) :
    (h.setPmpCfgByte p n v).mcounteren = h.mcounteren := by unfold Hart.setPmpCfgByte; split <;> rfl
@[simp] theorem Hart.setPmpCfg_mcounteren (p : Platform) (h : Hart) (k : Fin 4) (v : Word) : (h.setPmpCfg p k v).mcounteren = h.mcounteren := by
  simp [Hart.setPmpCfg]
@[simp] theorem Hart.setPmpCfgByte_mcountinhibit (p : Platform) (h : Hart) (n : Fin 16) (v : Byte) :
    (h.setPmpCfgByte p n v).mcountinhibit = h.mcountinhibit := by unfold Hart.setPmpCfgByte; split <;> rfl
@[simp] theorem Hart.setPmpCfg_mcountinhibit (p : Platform) (h : Hart) (k : Fin 4) (v : Word) : (h.setPmpCfg p k v).mcountinhibit = h.mcountinhibit := by
  simp [Hart.setPmpCfg]
@[simp] theorem Hart.setPmpCfgByte_mcycle (p : Platform) (h : Hart) (n : Fin 16) (v : Byte) :
    (h.setPmpCfgByte p n v).mcycle = h.mcycle := by unfold Hart.setPmpCfgByte; split <;> rfl
@[simp] theorem Hart.setPmpCfg_mcycle (p : Platform) (h : Hart) (k : Fin 4) (v : Word) : (h.setPmpCfg p k v).mcycle = h.mcycle := by
  simp [Hart.setPmpCfg]
@[simp] theorem Hart.setPmpCfgByte_minstret (p : Platform) (h : Hart) (n : Fin 16) (v : Byte) :
    (h.setPmpCfgByte p n v).minstret = h.minstret := by unfold Hart.setPmpCfgByte; split <;> rfl
@[simp] theorem Hart.setPmpCfg_minstret (p : Platform) (h : Hart) (k : Fin 4) (v : Word) : (h.setPmpCfg p k v).minstret = h.minstret := by
  simp [Hart.setPmpCfg]
@[simp] theorem Hart.setPmpCfgByte_pmpaddr (p : Platform) (h : Hart) (n : Fin 16) (v : Byte) :
    (h.setPmpCfgByte p n v).pmpaddr = h.pmpaddr := by unfold Hart.setPmpCfgByte; split <;> rfl
@[simp] theorem Hart.setPmpCfg_pmpaddr (p : Platform) (h : Hart) (k : Fin 4) (v : Word) : (h.setPmpCfg p k v).pmpaddr = h.pmpaddr := by
  simp [Hart.setPmpCfg]
@[simp] theorem Hart.setPmpCfgByte_dcsrEbreakM (p : Platform) (h : Hart) (n : Fin 16) (v : Byte) :
    (h.setPmpCfgByte p n v).dcsrEbreakM = h.dcsrEbreakM := by unfold Hart.setPmpCfgByte; split <;> rfl
@[simp] theorem Hart.setPmpCfg_dcsrEbreakM (p : Platform) (h : Hart) (k : Fin 4) (v : Word) : (h.setPmpCfg p k v).dcsrEbreakM = h.dcsrEbreakM := by
  simp [Hart.setPmpCfg]
@[simp] theorem Hart.setPmpCfgByte_dcsrEbreakU (p : Platform) (h : Hart) (n : Fin 16) (v : Byte) :
    (h.setPmpCfgByte p n v).dcsrEbreakU = h.dcsrEbreakU := by unfold Hart.setPmpCfgByte; split <;> rfl
@[simp] theorem Hart.setPmpCfg_dcsrEbreakU (p : Platform) (h : Hart) (k : Fin 4) (v : Word) : (h.setPmpCfg p k v).dcsrEbreakU = h.dcsrEbreakU := by
  simp [Hart.setPmpCfg]
@[simp] theorem Hart.setPmpCfgByte_stale (p : Platform) (h : Hart) (n : Fin 16) (v : Byte) :
    (h.setPmpCfgByte p n v).stale = h.stale := by unfold Hart.setPmpCfgByte; split <;> rfl
@[simp] theorem Hart.setPmpCfg_stale (p : Platform) (h : Hart) (k : Fin 4) (v : Word) : (h.setPmpCfg p k v).stale = h.stale := by
  simp [Hart.setPmpCfg]
@[simp] theorem Hart.setPmpAddr_id (p : Platform) (h : Hart) (n : Fin 16) (v : Word) : (h.setPmpAddr p n v).id = h.id := by
  unfold Hart.setPmpAddr; split <;> rfl
@[simp] theorem Hart.setPmpAddr_regs (p : Platform) (h : Hart) (n : Fin 16) (v : Word) : (h.setPmpAddr p n v).regs = h.regs := by
  unfold Hart.setPmpAddr; split <;> rfl
@[simp] theorem Hart.setPmpAddr_pc (p : Platform) (h : Hart) (n : Fin 16) (v : Word) : (h.setPmpAddr p n v).pc = h.pc := by
  unfold Hart.setPmpAddr; split <;> rfl
@[simp] theorem Hart.setPmpAddr_priv (p : Platform) (h : Hart) (n : Fin 16) (v : Word) : (h.setPmpAddr p n v).priv = h.priv := by
  unfold Hart.setPmpAddr; split <;> rfl
@[simp] theorem Hart.setPmpAddr_localMonitor (p : Platform) (h : Hart) (n : Fin 16) (v : Word) : (h.setPmpAddr p n v).localMonitor = h.localMonitor := by
  unfold Hart.setPmpAddr; split <;> rfl
@[simp] theorem Hart.setPmpAddr_reservation (p : Platform) (h : Hart) (n : Fin 16) (v : Word) : (h.setPmpAddr p n v).reservation = h.reservation := by
  unfold Hart.setPmpAddr; split <;> rfl
@[simp] theorem Hart.setPmpAddr_mstatus (p : Platform) (h : Hart) (n : Fin 16) (v : Word) : (h.setPmpAddr p n v).mstatus = h.mstatus := by
  unfold Hart.setPmpAddr; split <;> rfl
@[simp] theorem Hart.setPmpAddr_mie (p : Platform) (h : Hart) (n : Fin 16) (v : Word) : (h.setPmpAddr p n v).mie = h.mie := by
  unfold Hart.setPmpAddr; split <;> rfl
@[simp] theorem Hart.setPmpAddr_mtvec (p : Platform) (h : Hart) (n : Fin 16) (v : Word) : (h.setPmpAddr p n v).mtvec = h.mtvec := by
  unfold Hart.setPmpAddr; split <;> rfl
@[simp] theorem Hart.setPmpAddr_mscratch (p : Platform) (h : Hart) (n : Fin 16) (v : Word) : (h.setPmpAddr p n v).mscratch = h.mscratch := by
  unfold Hart.setPmpAddr; split <;> rfl
@[simp] theorem Hart.setPmpAddr_mepc (p : Platform) (h : Hart) (n : Fin 16) (v : Word) : (h.setPmpAddr p n v).mepc = h.mepc := by
  unfold Hart.setPmpAddr; split <;> rfl
@[simp] theorem Hart.setPmpAddr_mcause (p : Platform) (h : Hart) (n : Fin 16) (v : Word) : (h.setPmpAddr p n v).mcause = h.mcause := by
  unfold Hart.setPmpAddr; split <;> rfl
@[simp] theorem Hart.setPmpAddr_mcounteren (p : Platform) (h : Hart) (n : Fin 16) (v : Word) : (h.setPmpAddr p n v).mcounteren = h.mcounteren := by
  unfold Hart.setPmpAddr; split <;> rfl
@[simp] theorem Hart.setPmpAddr_mcountinhibit (p : Platform) (h : Hart) (n : Fin 16) (v : Word) : (h.setPmpAddr p n v).mcountinhibit = h.mcountinhibit := by
  unfold Hart.setPmpAddr; split <;> rfl
@[simp] theorem Hart.setPmpAddr_mcycle (p : Platform) (h : Hart) (n : Fin 16) (v : Word) : (h.setPmpAddr p n v).mcycle = h.mcycle := by
  unfold Hart.setPmpAddr; split <;> rfl
@[simp] theorem Hart.setPmpAddr_minstret (p : Platform) (h : Hart) (n : Fin 16) (v : Word) : (h.setPmpAddr p n v).minstret = h.minstret := by
  unfold Hart.setPmpAddr; split <;> rfl
@[simp] theorem Hart.setPmpAddr_pmpcfg (p : Platform) (h : Hart) (n : Fin 16) (v : Word) : (h.setPmpAddr p n v).pmpcfg = h.pmpcfg := by
  unfold Hart.setPmpAddr; split <;> rfl
@[simp] theorem Hart.setPmpAddr_dcsrEbreakM (p : Platform) (h : Hart) (n : Fin 16) (v : Word) : (h.setPmpAddr p n v).dcsrEbreakM = h.dcsrEbreakM := by
  unfold Hart.setPmpAddr; split <;> rfl
@[simp] theorem Hart.setPmpAddr_dcsrEbreakU (p : Platform) (h : Hart) (n : Fin 16) (v : Word) : (h.setPmpAddr p n v).dcsrEbreakU = h.dcsrEbreakU := by
  unfold Hart.setPmpAddr; split <;> rfl
@[simp] theorem Hart.setPmpAddr_stale (p : Platform) (h : Hart) (n : Fin 16) (v : Word) : (h.setPmpAddr p n v).stale = h.stale := by
  unfold Hart.setPmpAddr; split <;> rfl
@[simp] theorem Hart.csrWrite_id (p : Platform) (c : Csr) (v : Word) (h : Hart) : (h.csrWrite p c v).id = h.id := by
  cases c <;> simp [Hart.csrWrite]
@[simp] theorem Hart.csrWrite_regs (p : Platform) (c : Csr) (v : Word) (h : Hart) : (h.csrWrite p c v).regs = h.regs := by
  cases c <;> simp [Hart.csrWrite]
@[simp] theorem Hart.csrWrite_pc (p : Platform) (c : Csr) (v : Word) (h : Hart) : (h.csrWrite p c v).pc = h.pc := by
  cases c <;> simp [Hart.csrWrite]
@[simp] theorem Hart.csrWrite_priv (p : Platform) (c : Csr) (v : Word) (h : Hart) : (h.csrWrite p c v).priv = h.priv := by
  cases c <;> simp [Hart.csrWrite]
@[simp] theorem Hart.csrWrite_localMonitor (p : Platform) (c : Csr) (v : Word) (h : Hart) : (h.csrWrite p c v).localMonitor = h.localMonitor := by
  cases c <;> simp [Hart.csrWrite]
@[simp] theorem Hart.csrWrite_reservation (p : Platform) (c : Csr) (v : Word) (h : Hart) : (h.csrWrite p c v).reservation = h.reservation := by
  cases c <;> simp [Hart.csrWrite]
@[simp] theorem Hart.csrWrite_dcsrEbreakM (p : Platform) (c : Csr) (v : Word) (h : Hart) : (h.csrWrite p c v).dcsrEbreakM = h.dcsrEbreakM := by
  cases c <;> simp [Hart.csrWrite]
@[simp] theorem Hart.csrWrite_dcsrEbreakU (p : Platform) (c : Csr) (v : Word) (h : Hart) : (h.csrWrite p c v).dcsrEbreakU = h.dcsrEbreakU := by
  cases c <;> simp [Hart.csrWrite]
@[simp] theorem Hart.csrWrite_stale (p : Platform) (c : Csr) (v : Word) (h : Hart) : (h.csrWrite p c v).stale = h.stale := by
  cases c <;> simp [Hart.csrWrite]
@[simp] theorem Hart.csrWrite_reg (p : Platform) (c : Csr) (v : Word) (h : Hart) (r : RegIdx) :
    (h.csrWrite p c v).reg r = h.reg r := by simp [Hart.reg]

end Sys2Proof.Machine
end

