-- ==== Sys2Proof/Laws/Ops.lean ====
section
/-!
SUPPORT. One lemma for each shared operation that says once everything it can do: if it answers a next state, then which
checks passed and which state that is. And what the stores do to memory and to the held values.
-/

namespace Sys2Proof.Machine

/-! ### The end of an instruction -/

theorem finish_next {len : Word} {s t : State} (h : finish len s = .next t) : t = (s.setPc (s.hart.pc + len)).retire := by
  cases h; rfl

theorem finishAt_next {a : Word} {s t : State} (h : finishAt a s = .next t) : t = (s.setPc a).retire := by cases h; rfl

theorem writeReg_next {len v : Word} {rd : RegIdx} {s t : State} (h : writeReg len rd v s = .next t) :
    t = ((s.setReg rd v).setPc (s.hart.pc + len)).retire := by
  rw [finish_next h, State.setReg_hart_pc]

theorem raise_next {c : Cause} {s t : State} (h : raise c s = .next t) : t = enterTrap (.exception c) s := by cases h; rfl

/-! ### The checks of an access -/

theorem State.verdict_allowed_iff (s : State) (k : Access) (kind : PmpKind) (n : Nat) (m d : Cause) (a : Word) :
    s.verdict k kind n m d a = .allowed ↔
      a.toNat % n = 0 ∧ s.dataAllowed kind a = true ∧ s.plat.busFault k a = false := by
  unfold State.verdict
  split
  · simp_all
  · split
    · next h => simp only [Bool.or_eq_true, Bool.not_eq_true'] at h; rcases h with h | h <;> simp [h]
    · next h =>
      simp only [Bool.or_eq_true, Bool.not_eq_true', not_or, Bool.not_eq_false, Bool.not_eq_true] at h
      simp_all

/-- A check that traps: misaligned, or aligned and turned down. -/
theorem State.verdict_trap {s : State} {k : Access} {kind : PmpKind} {n : Nat} {m d c : Cause} {a : Word}
    (h : s.verdict k kind n m d a = .trap c) :
    (c = m ∧ a.toNat % n ≠ 0) ∨
      (c = d ∧ a.toNat % n = 0 ∧ (s.dataAllowed kind a = false ∨ s.plat.busFault k a = true)) := by
  unfold State.verdict at h
  split at h
  · next hn => cases h; exact .inl ⟨rfl, hn⟩
  · next hn =>
    split at h
    · next hd => cases h; exact .inr ⟨rfl, by omega, by simpa using hd⟩
    · cases h

/-- A checked operation that answers a next state: its body, or the trap of the check. -/
theorem guarded_next {v : Verdict} {s t : State} {body : Result} (h : guarded v s body = .next t) :
    (v = .allowed ∧ body = .next t) ∨ ∃ c, v = .trap c ∧ t = enterTrap (.exception c) s := by
  cases v with
  | allowed => exact .inl ⟨rfl, h⟩
  | trap c => exact .inr ⟨c, rfl, raise_next h⟩

/-! ### What the reads and the stores do -/

theorem State.load8_memory {s : State} {a : Word} (h : s.plat.isDevice a = false) : s.load8 a = s.mem.read8 a := by
  simp [State.load8, h]
theorem State.load16_memory {s : State} {a : Word} (h : s.plat.isDevice a = false) : s.load16 a = s.mem.read16 a := by
  simp [State.load16, h]
theorem State.load32_memory {s : State} {a : Word} (h : s.plat.isDevice a = false) : s.load32 a = s.mem.read32 a := by
  simp [State.load32, h]

theorem State.store8_mem (s : State) (a : Word) (v : Byte) :
    (s.store8 a v).mem = if s.plat.isDevice a then s.mem else s.mem.write a.toNat v := rfl

theorem State.store16_mem (s : State) (a : Word) (v : Half) :
    (s.store16 a v).mem = if s.plat.isDevice a then s.mem
      else (s.mem.write a.toNat (v.extractLsb' 0 8)).write (a + 1).toNat (v.extractLsb' 8 8) := by
  simp only [State.store16, State.endOtherReservation_mem, State.storeByte_mem]
  split <;> rfl

theorem State.store32_mem (s : State) (a v : Word) :
    (s.store32 a v).mem = if s.plat.isDevice a then s.mem
      else (((s.mem.write a.toNat (v.extractLsb' 0 8)).write (a + 1).toNat (v.extractLsb' 8 8)).write
        (a + 2).toNat (v.extractLsb' 16 8)).write (a + 3).toNat (v.extractLsb' 24 8) := by
  simp only [State.store32, State.endOtherReservation_mem, State.storeByte_mem]
  split <;> rfl

/-- A stored word, byte by byte. -/
theorem State.store32_byteAt (s : State) (a v : Word) (x : Nat) (h : s.plat.isDevice a = false) :
    (s.store32 a v).mem.byteAt x =
      if x = (a + 3).toNat then v.extractLsb' 24 8 else if x = (a + 2).toNat then v.extractLsb' 16 8
      else if x = (a + 1).toNat then v.extractLsb' 8 8 else if x = a.toNat then v.extractLsb' 0 8 else s.mem.byteAt x := by
  simp only [State.store32_mem, h, Bool.false_eq_true, if_false, Memory.byteAt_write]

/-- A stored halfword, byte by byte. -/
theorem State.store16_byteAt (s : State) (a : Word) (v : Half) (x : Nat) (h : s.plat.isDevice a = false) :
    (s.store16 a v).mem.byteAt x =
      if x = (a + 1).toNat then v.extractLsb' 8 8 else if x = a.toNat then v.extractLsb' 0 8 else s.mem.byteAt x := by
  simp only [State.store16_mem, h, Bool.false_eq_true, if_false, Memory.byteAt_write]

/-- A stored byte. -/
theorem State.store8_byteAt (s : State) (a : Word) (v : Byte) (x : Nat) (h : s.plat.isDevice a = false) :
    (s.store8 a v).mem.byteAt x = if x = a.toNat then v else s.mem.byteAt x := by
  simp only [State.store8_mem, h, Bool.false_eq_true, if_false, Memory.byteAt_write]

theorem State.store8_wf {s : State} (a : Word) (v : Byte) (h : s.mem.wf = true) : (s.store8 a v).mem.wf = true := by
  rw [State.store8_mem]
  split
  · exact h
  · exact Memory.wf_write_word a v h

theorem State.store16_wf {s : State} (a : Word) (v : Half) (h : s.mem.wf = true) : (s.store16 a v).mem.wf = true := by
  rw [State.store16_mem]
  split
  · exact h
  · exact Memory.wf_write_word _ _ (Memory.wf_write_word _ _ h)

theorem State.store32_wf {s : State} (a v : Word) (h : s.mem.wf = true) : (s.store32 a v).mem.wf = true := by
  rw [State.store32_mem]
  split
  · exact h
  · exact Memory.wf_write_word _ _ (Memory.wf_write_word _ _ (Memory.wf_write_word _ _ (Memory.wf_write_word _ _ h)))

/-- The held values of a byte after a store to a byte. -/
theorem Hart.heldValues_noteStore (h : Hart) (a x : Nat) (old : Byte) :
    (h.noteStore a old).heldValues x = if a = x then old :: h.heldValues x else h.heldValues x := by
  by_cases e : a = x <;> simp [Hart.heldValues, e]

theorem Hart.heldValues_loseReservation (p : Platform) (h : Hart) (a : Word) (x : Nat) :
    (h.loseReservation p a).heldValues x = h.heldValues x := by simp [Hart.heldValues]

theorem Hart.heldValues_nil {h : Hart} (e : h.stale = []) (x : Nat) : h.heldValues x = [] := by simp [Hart.heldValues, e]

/-- The running hart after a store: more held values, and nothing else. -/
theorem State.store32_hart (s : State) (a v : Word) :
    (s.store32 a v).hart = { s.hart with stale := (s.store32 a v).hart.stale } := by
  simp only [State.store32, State.endOtherReservation, State.storeByte, Hart.noteStore]

theorem State.store16_hart (s : State) (a : Word) (v : Half) :
    (s.store16 a v).hart = { s.hart with stale := (s.store16 a v).hart.stale } := by
  simp only [State.store16, State.endOtherReservation, State.storeByte, Hart.noteStore]

theorem State.store8_hart (s : State) (a : Word) (v : Byte) :
    (s.store8 a v).hart = { s.hart with stale := (s.store8 a v).hart.stale } := by
  simp only [State.store8, State.endOtherReservation, State.storeByte, Hart.noteStore]

@[simp] theorem State.store32_plat (s : State) (a v : Word) : (s.store32 a v).plat = s.plat := by simp [State.store32]
@[simp] theorem State.store32_turns (s : State) (a v : Word) : (s.store32 a v).turns = s.turns := by simp [State.store32]
@[simp] theorem State.store32_script (s : State) (a v : Word) : (s.store32 a v).script = s.script := by simp [State.store32]
@[simp] theorem State.store32_now (s : State) (a v : Word) : (s.store32 a v).now = s.now := by simp [State.store32]
@[simp] theorem State.store32_reg (s : State) (a v : Word) (q : RegIdx) : (s.store32 a v).reg q = s.reg q := by simp [State.store32]
@[simp] theorem State.store32_pc (s : State) (a v : Word) : (s.store32 a v).hart.pc = s.hart.pc := by simp [State.store32]
@[simp] theorem State.store16_pc (s : State) (a : Word) (v : Half) : (s.store16 a v).hart.pc = s.hart.pc := by
  simp [State.store16]
@[simp] theorem State.store8_pc (s : State) (a : Word) (v : Byte) : (s.store8 a v).hart.pc = s.hart.pc := by
  simp [State.store8]

/-- A hart has no reservation of the granule after losing it. -/
theorem Hart.reservedAt_loseReservation (p : Platform) (h : Hart) (a : Word) :
    (h.loseReservation p a).reservedAt p a = false := by
  unfold Hart.loseReservation
  split
  · rfl
  · next e => simpa using e

/-! ### Loads and stores as the end of an instruction -/

theorem loadWord_next {len a : Word} {rd : RegIdx} {s t : State} (h : loadWord len rd a s = .next t) :
    (s.loadVerdict 4 a = .allowed ∧ t = ((s.setReg rd (s.load32 a)).setPc (s.hart.pc + len)).retire) ∨
      ∃ c, s.loadVerdict 4 a = .trap c ∧ t = enterTrap (.exception c) s :=
  (guarded_next h).imp_left fun ⟨e, k⟩ => ⟨e, writeReg_next k⟩

theorem loadHalfSigned_next {len a : Word} {rd : RegIdx} {s t : State} (h : loadHalfSigned len rd a s = .next t) :
    (s.loadVerdict 2 a = .allowed ∧ t = ((s.setReg rd (signExtend (s.load16 a))).setPc (s.hart.pc + len)).retire) ∨
      ∃ c, s.loadVerdict 2 a = .trap c ∧ t = enterTrap (.exception c) s :=
  (guarded_next h).imp_left fun ⟨e, k⟩ => ⟨e, writeReg_next k⟩

theorem loadHalfUnsigned_next {len a : Word} {rd : RegIdx} {s t : State} (h : loadHalfUnsigned len rd a s = .next t) :
    (s.loadVerdict 2 a = .allowed ∧ t = ((s.setReg rd (zeroExtend (s.load16 a))).setPc (s.hart.pc + len)).retire) ∨
      ∃ c, s.loadVerdict 2 a = .trap c ∧ t = enterTrap (.exception c) s :=
  (guarded_next h).imp_left fun ⟨e, k⟩ => ⟨e, writeReg_next k⟩

theorem loadByteSigned_next {len a : Word} {rd : RegIdx} {s t : State} (h : loadByteSigned len rd a s = .next t) :
    (s.loadVerdict 1 a = .allowed ∧ t = ((s.setReg rd (signExtend (s.load8 a))).setPc (s.hart.pc + len)).retire) ∨
      ∃ c, s.loadVerdict 1 a = .trap c ∧ t = enterTrap (.exception c) s :=
  (guarded_next h).imp_left fun ⟨e, k⟩ => ⟨e, writeReg_next k⟩

theorem loadByteUnsigned_next {len a : Word} {rd : RegIdx} {s t : State} (h : loadByteUnsigned len rd a s = .next t) :
    (s.loadVerdict 1 a = .allowed ∧ t = ((s.setReg rd (zeroExtend (s.load8 a))).setPc (s.hart.pc + len)).retire) ∨
      ∃ c, s.loadVerdict 1 a = .trap c ∧ t = enterTrap (.exception c) s :=
  (guarded_next h).imp_left fun ⟨e, k⟩ => ⟨e, writeReg_next k⟩

theorem storeWord_next {len a v : Word} {s t : State} (h : storeWord len a v s = .next t) :
    (s.storeVerdict 4 a = .allowed ∧ t = ((s.store32 a v).setPc (s.hart.pc + len)).retire) ∨
      ∃ c, s.storeVerdict 4 a = .trap c ∧ t = enterTrap (.exception c) s :=
  (guarded_next h).imp_left fun ⟨e, k⟩ => ⟨e, by simpa using finish_next k⟩

theorem storeHalf_next {len a v : Word} {s t : State} (h : storeHalf len a v s = .next t) :
    (s.storeVerdict 2 a = .allowed ∧ t = ((s.store16 a (v.extractLsb' 0 16)).setPc (s.hart.pc + len)).retire) ∨
      ∃ c, s.storeVerdict 2 a = .trap c ∧ t = enterTrap (.exception c) s :=
  (guarded_next h).imp_left fun ⟨e, k⟩ => ⟨e, by simpa using finish_next k⟩

theorem storeByteOf_next {len a v : Word} {s t : State} (h : storeByteOf len a v s = .next t) :
    (s.storeVerdict 1 a = .allowed ∧ t = ((s.store8 a (v.extractLsb' 0 8)).setPc (s.hart.pc + len)).retire) ∨
      ∃ c, s.storeVerdict 1 a = .trap c ∧ t = enterTrap (.exception c) s :=
  (guarded_next h).imp_left fun ⟨e, k⟩ => ⟨e, by simpa using finish_next k⟩

/-! ### Exclusive accesses -/

theorem loadReserved_next {rd : RegIdx} {a : Word} {s t : State} (h : loadReserved rd a s = .next t) :
    (s.exclusiveVerdict .read .loadMisaligned .loadFault a = .allowed ∧
        t = (((s.reserve a).setReg rd (s.load32 a)).setPc ((s.reserve a).hart.pc + 4)).retire) ∨
      ∃ c, s.exclusiveVerdict .read .loadMisaligned .loadFault a = .trap c ∧ t = enterTrap (.exception c) s :=
  (guarded_next h).imp_left fun ⟨e, k⟩ => ⟨e, writeReg_next k⟩

/-- sc.w: it traps, fails without a bus transaction, succeeds, or fails at the global monitor. -/
theorem storeConditional_next {rd : RegIdx} {a v : Word} {s t : State} (h : storeConditional rd a v s = .next t) :
    (∃ c, s.exclusiveVerdict .write .storeMisaligned .storeFault a = .trap c ∧ t = enterTrap (.exception c) s) ∨
    (s.hart.localMonitor = false ∧ t = ((s.setReg rd 1).setPc (s.hart.pc + 4)).retire) ∨
    (s.hart.localMonitor = true ∧ s.exclusiveGranted a = true ∧
      t = (((s.store32 a v).endExclusive.setReg rd 0).setPc (s.hart.pc + 4)).retire) ∨
    (s.hart.localMonitor = true ∧ s.exclusiveGranted a = false ∧
      t = ((s.endExclusive.setReg rd 1).setPc (s.hart.pc + 4)).retire) := by
  rcases guarded_next h with ⟨-, h⟩ | h
  · refine .inr ?_
    unfold storeConditionalBody at h
    split at h
    · next hl => exact .inl ⟨by simpa using hl, writeReg_next h⟩
    · next hl =>
      split at h
      · next hg => exact .inr (.inl ⟨by simpa using hl, hg, by simpa using writeReg_next h⟩)
      · next hg => exact .inr (.inr ⟨by simpa using hl, by simpa using hg, writeReg_next h⟩)
  · exact .inl h

/-- An AMO passes its checks exactly where an exclusive access does and the address supports one. -/
theorem State.amoVerdict_allowed_iff (s : State) (a : Word) :
    s.amoVerdict a = .allowed ↔
      s.exclusiveVerdict .readWrite .storeMisaligned .storeFault a = .allowed ∧ s.plat.supportsExclusive a = true := by
  unfold State.amoVerdict
  cases s.exclusiveVerdict .readWrite .storeMisaligned .storeFault a <;> cases s.plat.supportsExclusive a <;> simp

theorem atomicUpdate_next {f : Word → Word → Word} {rd : RegIdx} {a v : Word} {s t : State}
    (h : atomicUpdate f rd a v s = .next t) :
    (s.amoVerdict a = .allowed ∧
        t = (((s.store32 a (f (s.load32 a) v)).endExclusive.setReg rd (s.load32 a)).setPc (s.hart.pc + 4)).retire) ∨
      ∃ c, s.amoVerdict a = .trap c ∧ t = enterTrap (.exception c) s :=
  (guarded_next h).imp_left fun ⟨e, k⟩ => ⟨e, by simpa using writeReg_next k⟩

/-! ### CSR instructions and breakpoints -/

/-- A CSR instruction is illegal, or it accesses a register other than a custom one. -/
theorem csrInstr_next {a : CsrAddr} {rd : RegIdx} {w : Option (Word → Word)} {s t : State}
    (h : csrInstr a rd w s = .next t) :
    (csrVerdict a w.isSome s = .illegal ∧ t = enterTrap (.exception .illegal) s) ∨
      ∃ c, csrVerdict a w.isSome s = .access c ∧ c ≠ .custom ∧ t = csrCommit c (w.map fun f => f (csrRead c s)) rd s := by
  unfold csrInstr at h
  split at h
  · next e => exact .inl ⟨e, raise_next h⟩
  · cases h
  · next c hc e => cases h; exact .inr ⟨c, e, hc, rfl⟩

theorem breakpoint_next {s t : State} (h : breakpoint s = .next t) :
    s.debugCatches = false ∧ t = enterTrap (.exception .breakpoint) s := by
  unfold breakpoint at h
  split at h
  · cases h
  · next e => exact ⟨by simpa using e, raise_next h⟩

theorem csrWrite_reg (c : Csr) (v : Word) (s : State) (r : RegIdx) : (csrWrite c v s).reg r = s.reg r := by
  simp [State.reg]

end Sys2Proof.Machine
end

