-- ==== Sys2Proof/Laws/PerInstr.lean ====
section
/-!
SUPPORT. One lemma for each instruction: its code is one parcel or two as its length says, and bits 1:0 of the first parcel
tell which (30 R120, R121).
-/

namespace Sys2Proof.Laws.EncodingFits

/-- The code of the instruction has the size of its length, and a fetch that sees its first parcel knows which. -/
def Statement (i : Instr) : Prop :=
  match encode i with
  | .half h => i.length = 2 ∧ isLong h = false
  | .word w => i.length = 4 ∧ isLong (w.setWidth 16) = true

theorem getLsbD_append_low {n m : Nat} (a : BitVec n) (b : BitVec m) {k : Nat} (h : k < m) :
    (a ++ b).getLsbD k = b.getLsbD k := by simp [BitVec.getLsbD_append, h]

/-- A word is long where its opcode says so. -/
theorem isLong_mkWord (f7 : BitVec 7) (rs2 rs1 : RegIdx) (f3 : BitVec 3) (rd : RegIdx) {op : BitVec 7}
    (h : op.extractLsb' 0 2 = 3#2) : isLong ((mkWord f7 rs2 rs1 f3 rd op).setWidth 16) = true := by
  have low {k : Nat} (hk : k < 7) : (mkWord f7 rs2 rs1 f3 rd op).getLsbD k = op.getLsbD k := getLsbD_append_low _ _ hk
  have e : ((mkWord f7 rs2 rs1 f3 rd op).setWidth 16).extractLsb' 0 2 = op.extractLsb' 0 2 := by
    apply BitVec.eq_of_getLsbD_eq
    intro i hi
    have h16 : i < 16 := by omega
    simp [low (k := i) (by omega), h16]
  simp [isLong, quadrant, e, h]

/-- A halfword is short where its quadrant says so. -/
theorem isLong_mkHalf (f3 : BitVec 3) (b12 : BitVec 1) (f2 : BitVec 2) (r97 : BitVec 3) (b65 : BitVec 2) (r42 : BitVec 3)
    {q : BitVec 2} (h : (q == 3#2) = false) : isLong (mkHalf f3 b12 f2 r97 b65 r42 q) = false := by
  have low {k : Nat} (hk : k < 2) : (mkHalf f3 b12 f2 r97 b65 r42 q).getLsbD k = q.getLsbD k := getLsbD_append_low _ _ hk
  have e : (mkHalf f3 b12 f2 r97 b65 r42 q).extractLsb' 0 2 = q := by
    apply BitVec.eq_of_getLsbD_eq
    intro i hi
    simp [low hi, hi]
  simpa [isLong, quadrant, e] using h

theorem add : ∀ a b c, Statement (.add a b c) := fun _ _ _ => ⟨rfl, isLong_mkWord _ _ _ _ _ rfl⟩
theorem and : ∀ a b c, Statement (.and a b c) := fun _ _ _ => ⟨rfl, isLong_mkWord _ _ _ _ _ rfl⟩
theorem or : ∀ a b c, Statement (.or a b c) := fun _ _ _ => ⟨rfl, isLong_mkWord _ _ _ _ _ rfl⟩
theorem sll : ∀ a b c, Statement (.sll a b c) := fun _ _ _ => ⟨rfl, isLong_mkWord _ _ _ _ _ rfl⟩
theorem slt : ∀ a b c, Statement (.slt a b c) := fun _ _ _ => ⟨rfl, isLong_mkWord _ _ _ _ _ rfl⟩
theorem sltu : ∀ a b c, Statement (.sltu a b c) := fun _ _ _ => ⟨rfl, isLong_mkWord _ _ _ _ _ rfl⟩
theorem sra : ∀ a b c, Statement (.sra a b c) := fun _ _ _ => ⟨rfl, isLong_mkWord _ _ _ _ _ rfl⟩
theorem srl : ∀ a b c, Statement (.srl a b c) := fun _ _ _ => ⟨rfl, isLong_mkWord _ _ _ _ _ rfl⟩
theorem sub : ∀ a b c, Statement (.sub a b c) := fun _ _ _ => ⟨rfl, isLong_mkWord _ _ _ _ _ rfl⟩
theorem xor : ∀ a b c, Statement (.xor a b c) := fun _ _ _ => ⟨rfl, isLong_mkWord _ _ _ _ _ rfl⟩
theorem addi : ∀ a b c, Statement (.addi a b c) := fun _ _ _ => ⟨rfl, isLong_mkWord _ _ _ _ _ rfl⟩
theorem andi : ∀ a b c, Statement (.andi a b c) := fun _ _ _ => ⟨rfl, isLong_mkWord _ _ _ _ _ rfl⟩
theorem ori : ∀ a b c, Statement (.ori a b c) := fun _ _ _ => ⟨rfl, isLong_mkWord _ _ _ _ _ rfl⟩
theorem slli : ∀ a b c, Statement (.slli a b c) := fun _ _ _ => ⟨rfl, isLong_mkWord _ _ _ _ _ rfl⟩
theorem slti : ∀ a b c, Statement (.slti a b c) := fun _ _ _ => ⟨rfl, isLong_mkWord _ _ _ _ _ rfl⟩
theorem sltiu : ∀ a b c, Statement (.sltiu a b c) := fun _ _ _ => ⟨rfl, isLong_mkWord _ _ _ _ _ rfl⟩
theorem srai : ∀ a b c, Statement (.srai a b c) := fun _ _ _ => ⟨rfl, isLong_mkWord _ _ _ _ _ rfl⟩
theorem srli : ∀ a b c, Statement (.srli a b c) := fun _ _ _ => ⟨rfl, isLong_mkWord _ _ _ _ _ rfl⟩
theorem xori : ∀ a b c, Statement (.xori a b c) := fun _ _ _ => ⟨rfl, isLong_mkWord _ _ _ _ _ rfl⟩
theorem auipc : ∀ a b, Statement (.auipc a b) := fun _ _ => ⟨rfl, isLong_mkWord _ _ _ _ _ rfl⟩
theorem lui : ∀ a b, Statement (.lui a b) := fun _ _ => ⟨rfl, isLong_mkWord _ _ _ _ _ rfl⟩
theorem beq : ∀ a b c, Statement (.beq a b c) := fun _ _ _ => ⟨rfl, isLong_mkWord _ _ _ _ _ rfl⟩
theorem bge : ∀ a b c, Statement (.bge a b c) := fun _ _ _ => ⟨rfl, isLong_mkWord _ _ _ _ _ rfl⟩
theorem bgeu : ∀ a b c, Statement (.bgeu a b c) := fun _ _ _ => ⟨rfl, isLong_mkWord _ _ _ _ _ rfl⟩
theorem blt : ∀ a b c, Statement (.blt a b c) := fun _ _ _ => ⟨rfl, isLong_mkWord _ _ _ _ _ rfl⟩
theorem bltu : ∀ a b c, Statement (.bltu a b c) := fun _ _ _ => ⟨rfl, isLong_mkWord _ _ _ _ _ rfl⟩
theorem bne : ∀ a b c, Statement (.bne a b c) := fun _ _ _ => ⟨rfl, isLong_mkWord _ _ _ _ _ rfl⟩
theorem jal : ∀ a b, Statement (.jal a b) := fun _ _ => ⟨rfl, isLong_mkWord _ _ _ _ _ rfl⟩
theorem jalr : ∀ a b c, Statement (.jalr a b c) := fun _ _ _ => ⟨rfl, isLong_mkWord _ _ _ _ _ rfl⟩
theorem lb : ∀ a b c, Statement (.lb a b c) := fun _ _ _ => ⟨rfl, isLong_mkWord _ _ _ _ _ rfl⟩
theorem lbu : ∀ a b c, Statement (.lbu a b c) := fun _ _ _ => ⟨rfl, isLong_mkWord _ _ _ _ _ rfl⟩
theorem lh : ∀ a b c, Statement (.lh a b c) := fun _ _ _ => ⟨rfl, isLong_mkWord _ _ _ _ _ rfl⟩
theorem lhu : ∀ a b c, Statement (.lhu a b c) := fun _ _ _ => ⟨rfl, isLong_mkWord _ _ _ _ _ rfl⟩
theorem lw : ∀ a b c, Statement (.lw a b c) := fun _ _ _ => ⟨rfl, isLong_mkWord _ _ _ _ _ rfl⟩
theorem sb : ∀ a b c, Statement (.sb a b c) := fun _ _ _ => ⟨rfl, isLong_mkWord _ _ _ _ _ rfl⟩
theorem sh : ∀ a b c, Statement (.sh a b c) := fun _ _ _ => ⟨rfl, isLong_mkWord _ _ _ _ _ rfl⟩
theorem sw : ∀ a b c, Statement (.sw a b c) := fun _ _ _ => ⟨rfl, isLong_mkWord _ _ _ _ _ rfl⟩
theorem div : ∀ a b c, Statement (.div a b c) := fun _ _ _ => ⟨rfl, isLong_mkWord _ _ _ _ _ rfl⟩
theorem divu : ∀ a b c, Statement (.divu a b c) := fun _ _ _ => ⟨rfl, isLong_mkWord _ _ _ _ _ rfl⟩
theorem mul : ∀ a b c, Statement (.mul a b c) := fun _ _ _ => ⟨rfl, isLong_mkWord _ _ _ _ _ rfl⟩
theorem mulh : ∀ a b c, Statement (.mulh a b c) := fun _ _ _ => ⟨rfl, isLong_mkWord _ _ _ _ _ rfl⟩
theorem mulhsu : ∀ a b c, Statement (.mulhsu a b c) := fun _ _ _ => ⟨rfl, isLong_mkWord _ _ _ _ _ rfl⟩
theorem mulhu : ∀ a b c, Statement (.mulhu a b c) := fun _ _ _ => ⟨rfl, isLong_mkWord _ _ _ _ _ rfl⟩
theorem rem : ∀ a b c, Statement (.rem a b c) := fun _ _ _ => ⟨rfl, isLong_mkWord _ _ _ _ _ rfl⟩
theorem remu : ∀ a b c, Statement (.remu a b c) := fun _ _ _ => ⟨rfl, isLong_mkWord _ _ _ _ _ rfl⟩
theorem amoaddW : ∀ a b c d e, Statement (.amoaddW a b c d e) := fun _ _ _ _ _ => ⟨rfl, isLong_mkWord _ _ _ _ _ rfl⟩
theorem amoandW : ∀ a b c d e, Statement (.amoandW a b c d e) := fun _ _ _ _ _ => ⟨rfl, isLong_mkWord _ _ _ _ _ rfl⟩
theorem amomaxW : ∀ a b c d e, Statement (.amomaxW a b c d e) := fun _ _ _ _ _ => ⟨rfl, isLong_mkWord _ _ _ _ _ rfl⟩
theorem amomaxuW : ∀ a b c d e, Statement (.amomaxuW a b c d e) := fun _ _ _ _ _ => ⟨rfl, isLong_mkWord _ _ _ _ _ rfl⟩
theorem amominW : ∀ a b c d e, Statement (.amominW a b c d e) := fun _ _ _ _ _ => ⟨rfl, isLong_mkWord _ _ _ _ _ rfl⟩
theorem amominuW : ∀ a b c d e, Statement (.amominuW a b c d e) := fun _ _ _ _ _ => ⟨rfl, isLong_mkWord _ _ _ _ _ rfl⟩
theorem amoorW : ∀ a b c d e, Statement (.amoorW a b c d e) := fun _ _ _ _ _ => ⟨rfl, isLong_mkWord _ _ _ _ _ rfl⟩
theorem amoswapW : ∀ a b c d e, Statement (.amoswapW a b c d e) := fun _ _ _ _ _ => ⟨rfl, isLong_mkWord _ _ _ _ _ rfl⟩
theorem amoxorW : ∀ a b c d e, Statement (.amoxorW a b c d e) := fun _ _ _ _ _ => ⟨rfl, isLong_mkWord _ _ _ _ _ rfl⟩
theorem lrW : ∀ a b c d, Statement (.lrW a b c d) := fun _ _ _ _ => ⟨rfl, isLong_mkWord _ _ _ _ _ rfl⟩
theorem scW : ∀ a b c d e, Statement (.scW a b c d e) := fun _ _ _ _ _ => ⟨rfl, isLong_mkWord _ _ _ _ _ rfl⟩
theorem sh1add : ∀ a b c, Statement (.sh1add a b c) := fun _ _ _ => ⟨rfl, isLong_mkWord _ _ _ _ _ rfl⟩
theorem sh2add : ∀ a b c, Statement (.sh2add a b c) := fun _ _ _ => ⟨rfl, isLong_mkWord _ _ _ _ _ rfl⟩
theorem sh3add : ∀ a b c, Statement (.sh3add a b c) := fun _ _ _ => ⟨rfl, isLong_mkWord _ _ _ _ _ rfl⟩
theorem andn : ∀ a b c, Statement (.andn a b c) := fun _ _ _ => ⟨rfl, isLong_mkWord _ _ _ _ _ rfl⟩
theorem clz : ∀ a b, Statement (.clz a b) := fun _ _ => ⟨rfl, isLong_mkWord _ _ _ _ _ rfl⟩
theorem cpop : ∀ a b, Statement (.cpop a b) := fun _ _ => ⟨rfl, isLong_mkWord _ _ _ _ _ rfl⟩
theorem ctz : ∀ a b, Statement (.ctz a b) := fun _ _ => ⟨rfl, isLong_mkWord _ _ _ _ _ rfl⟩
theorem max : ∀ a b c, Statement (.max a b c) := fun _ _ _ => ⟨rfl, isLong_mkWord _ _ _ _ _ rfl⟩
theorem maxu : ∀ a b c, Statement (.maxu a b c) := fun _ _ _ => ⟨rfl, isLong_mkWord _ _ _ _ _ rfl⟩
theorem min : ∀ a b c, Statement (.min a b c) := fun _ _ _ => ⟨rfl, isLong_mkWord _ _ _ _ _ rfl⟩
theorem minu : ∀ a b c, Statement (.minu a b c) := fun _ _ _ => ⟨rfl, isLong_mkWord _ _ _ _ _ rfl⟩
theorem orcB : ∀ a b, Statement (.orcB a b) := fun _ _ => ⟨rfl, isLong_mkWord _ _ _ _ _ rfl⟩
theorem orn : ∀ a b c, Statement (.orn a b c) := fun _ _ _ => ⟨rfl, isLong_mkWord _ _ _ _ _ rfl⟩
theorem rev8 : ∀ a b, Statement (.rev8 a b) := fun _ _ => ⟨rfl, isLong_mkWord _ _ _ _ _ rfl⟩
theorem rol : ∀ a b c, Statement (.rol a b c) := fun _ _ _ => ⟨rfl, isLong_mkWord _ _ _ _ _ rfl⟩
theorem ror : ∀ a b c, Statement (.ror a b c) := fun _ _ _ => ⟨rfl, isLong_mkWord _ _ _ _ _ rfl⟩
theorem rori : ∀ a b c, Statement (.rori a b c) := fun _ _ _ => ⟨rfl, isLong_mkWord _ _ _ _ _ rfl⟩
theorem sextB : ∀ a b, Statement (.sextB a b) := fun _ _ => ⟨rfl, isLong_mkWord _ _ _ _ _ rfl⟩
theorem sextH : ∀ a b, Statement (.sextH a b) := fun _ _ => ⟨rfl, isLong_mkWord _ _ _ _ _ rfl⟩
theorem xnor : ∀ a b c, Statement (.xnor a b c) := fun _ _ _ => ⟨rfl, isLong_mkWord _ _ _ _ _ rfl⟩
theorem zextH : ∀ a b, Statement (.zextH a b) := fun _ _ => ⟨rfl, isLong_mkWord _ _ _ _ _ rfl⟩
theorem bclr : ∀ a b c, Statement (.bclr a b c) := fun _ _ _ => ⟨rfl, isLong_mkWord _ _ _ _ _ rfl⟩
theorem bclri : ∀ a b c, Statement (.bclri a b c) := fun _ _ _ => ⟨rfl, isLong_mkWord _ _ _ _ _ rfl⟩
theorem bext : ∀ a b c, Statement (.bext a b c) := fun _ _ _ => ⟨rfl, isLong_mkWord _ _ _ _ _ rfl⟩
theorem bexti : ∀ a b c, Statement (.bexti a b c) := fun _ _ _ => ⟨rfl, isLong_mkWord _ _ _ _ _ rfl⟩
theorem binv : ∀ a b c, Statement (.binv a b c) := fun _ _ _ => ⟨rfl, isLong_mkWord _ _ _ _ _ rfl⟩
theorem binvi : ∀ a b c, Statement (.binvi a b c) := fun _ _ _ => ⟨rfl, isLong_mkWord _ _ _ _ _ rfl⟩
theorem bset : ∀ a b c, Statement (.bset a b c) := fun _ _ _ => ⟨rfl, isLong_mkWord _ _ _ _ _ rfl⟩
theorem bseti : ∀ a b c, Statement (.bseti a b c) := fun _ _ _ => ⟨rfl, isLong_mkWord _ _ _ _ _ rfl⟩
theorem brev8 : ∀ a b, Statement (.brev8 a b) := fun _ _ => ⟨rfl, isLong_mkWord _ _ _ _ _ rfl⟩
theorem pack : ∀ a b c, Statement (.pack a b c) := fun _ _ _ => ⟨rfl, isLong_mkWord _ _ _ _ _ rfl⟩
theorem packh : ∀ a b c, Statement (.packh a b c) := fun _ _ _ => ⟨rfl, isLong_mkWord _ _ _ _ _ rfl⟩
theorem unzip : ∀ a b, Statement (.unzip a b) := fun _ _ => ⟨rfl, isLong_mkWord _ _ _ _ _ rfl⟩
theorem zip : ∀ a b, Statement (.zip a b) := fun _ _ => ⟨rfl, isLong_mkWord _ _ _ _ _ rfl⟩
theorem fence : ∀ a b c d e, Statement (.fence a b c d e) := fun _ _ _ _ _ => ⟨rfl, isLong_mkWord _ _ _ _ _ rfl⟩
theorem fenceTso : Statement .fenceTso := ⟨rfl, rfl⟩
theorem fenceI : ∀ a b c, Statement (.fenceI a b c) := fun _ _ _ => ⟨rfl, isLong_mkWord _ _ _ _ _ rfl⟩
theorem csrrc : ∀ a b c, Statement (.csrrc a b c) := fun _ _ _ => ⟨rfl, isLong_mkWord _ _ _ _ _ rfl⟩
theorem csrrci : ∀ a b c, Statement (.csrrci a b c) := fun _ _ _ => ⟨rfl, isLong_mkWord _ _ _ _ _ rfl⟩
theorem csrrs : ∀ a b c, Statement (.csrrs a b c) := fun _ _ _ => ⟨rfl, isLong_mkWord _ _ _ _ _ rfl⟩
theorem csrrsi : ∀ a b c, Statement (.csrrsi a b c) := fun _ _ _ => ⟨rfl, isLong_mkWord _ _ _ _ _ rfl⟩
theorem csrrw : ∀ a b c, Statement (.csrrw a b c) := fun _ _ _ => ⟨rfl, isLong_mkWord _ _ _ _ _ rfl⟩
theorem csrrwi : ∀ a b c, Statement (.csrrwi a b c) := fun _ _ _ => ⟨rfl, isLong_mkWord _ _ _ _ _ rfl⟩
theorem ebreak : Statement .ebreak := ⟨rfl, rfl⟩
theorem ecall : Statement .ecall := ⟨rfl, rfl⟩
theorem mret : Statement .mret := ⟨rfl, rfl⟩
theorem wfi : Statement .wfi := ⟨rfl, rfl⟩
theorem cAddi4spn : ∀ a b, Statement (.cAddi4spn a b) := fun _ _ => ⟨rfl, isLong_mkHalf _ _ _ _ _ _ rfl⟩
theorem cLw : ∀ a b c, Statement (.cLw a b c) := fun _ _ _ => ⟨rfl, isLong_mkHalf _ _ _ _ _ _ rfl⟩
theorem cSw : ∀ a b c, Statement (.cSw a b c) := fun _ _ _ => ⟨rfl, isLong_mkHalf _ _ _ _ _ _ rfl⟩
theorem cNop : ∀ a, Statement (.cNop a) := fun _ => ⟨rfl, isLong_mkHalf _ _ _ _ _ _ rfl⟩
theorem cAddi : ∀ a b, Statement (.cAddi a b) := fun _ _ => ⟨rfl, isLong_mkHalf _ _ _ _ _ _ rfl⟩
theorem cJal : ∀ a, Statement (.cJal a) := fun _ => ⟨rfl, isLong_mkHalf _ _ _ _ _ _ rfl⟩
theorem cLi : ∀ a b, Statement (.cLi a b) := fun _ _ => ⟨rfl, isLong_mkHalf _ _ _ _ _ _ rfl⟩
theorem cAddi16sp : ∀ a, Statement (.cAddi16sp a) := fun _ => ⟨rfl, isLong_mkHalf _ _ _ _ _ _ rfl⟩
theorem cLui : ∀ a b, Statement (.cLui a b) := fun _ _ => ⟨rfl, isLong_mkHalf _ _ _ _ _ _ rfl⟩
theorem cSrli : ∀ a b, Statement (.cSrli a b) := fun _ _ => ⟨rfl, isLong_mkHalf _ _ _ _ _ _ rfl⟩
theorem cSrai : ∀ a b, Statement (.cSrai a b) := fun _ _ => ⟨rfl, isLong_mkHalf _ _ _ _ _ _ rfl⟩
theorem cAndi : ∀ a b, Statement (.cAndi a b) := fun _ _ => ⟨rfl, isLong_mkHalf _ _ _ _ _ _ rfl⟩
theorem cSub : ∀ a b, Statement (.cSub a b) := fun _ _ => ⟨rfl, isLong_mkHalf _ _ _ _ _ _ rfl⟩
theorem cXor : ∀ a b, Statement (.cXor a b) := fun _ _ => ⟨rfl, isLong_mkHalf _ _ _ _ _ _ rfl⟩
theorem cOr : ∀ a b, Statement (.cOr a b) := fun _ _ => ⟨rfl, isLong_mkHalf _ _ _ _ _ _ rfl⟩
theorem cAnd : ∀ a b, Statement (.cAnd a b) := fun _ _ => ⟨rfl, isLong_mkHalf _ _ _ _ _ _ rfl⟩
theorem cJ : ∀ a, Statement (.cJ a) := fun _ => ⟨rfl, isLong_mkHalf _ _ _ _ _ _ rfl⟩
theorem cBeqz : ∀ a b, Statement (.cBeqz a b) := fun _ _ => ⟨rfl, isLong_mkHalf _ _ _ _ _ _ rfl⟩
theorem cBnez : ∀ a b, Statement (.cBnez a b) := fun _ _ => ⟨rfl, isLong_mkHalf _ _ _ _ _ _ rfl⟩
theorem cSlli : ∀ a b, Statement (.cSlli a b) := fun _ _ => ⟨rfl, isLong_mkHalf _ _ _ _ _ _ rfl⟩
theorem cLwsp : ∀ a b, Statement (.cLwsp a b) := fun _ _ => ⟨rfl, isLong_mkHalf _ _ _ _ _ _ rfl⟩
theorem cJr : ∀ a, Statement (.cJr a) := fun _ => ⟨rfl, isLong_mkHalf _ _ _ _ _ _ rfl⟩
theorem cMv : ∀ a b, Statement (.cMv a b) := fun _ _ => ⟨rfl, isLong_mkHalf _ _ _ _ _ _ rfl⟩
theorem cEbreak : Statement .cEbreak := ⟨rfl, rfl⟩
theorem cJalr : ∀ a, Statement (.cJalr a) := fun _ => ⟨rfl, isLong_mkHalf _ _ _ _ _ _ rfl⟩
theorem cAdd : ∀ a b, Statement (.cAdd a b) := fun _ _ => ⟨rfl, isLong_mkHalf _ _ _ _ _ _ rfl⟩
theorem cSwsp : ∀ a b, Statement (.cSwsp a b) := fun _ _ => ⟨rfl, isLong_mkHalf _ _ _ _ _ _ rfl⟩
theorem cLbu : ∀ a b c, Statement (.cLbu a b c) := fun _ _ _ => ⟨rfl, isLong_mkHalf _ _ _ _ _ _ rfl⟩
theorem cLhu : ∀ a b c, Statement (.cLhu a b c) := fun _ _ _ => ⟨rfl, isLong_mkHalf _ _ _ _ _ _ rfl⟩
theorem cLh : ∀ a b c, Statement (.cLh a b c) := fun _ _ _ => ⟨rfl, isLong_mkHalf _ _ _ _ _ _ rfl⟩
theorem cSb : ∀ a b c, Statement (.cSb a b c) := fun _ _ _ => ⟨rfl, isLong_mkHalf _ _ _ _ _ _ rfl⟩
theorem cSh : ∀ a b c, Statement (.cSh a b c) := fun _ _ _ => ⟨rfl, isLong_mkHalf _ _ _ _ _ _ rfl⟩
theorem cZextB : ∀ a, Statement (.cZextB a) := fun _ => ⟨rfl, isLong_mkHalf _ _ _ _ _ _ rfl⟩
theorem cSextB : ∀ a, Statement (.cSextB a) := fun _ => ⟨rfl, isLong_mkHalf _ _ _ _ _ _ rfl⟩
theorem cZextH : ∀ a, Statement (.cZextH a) := fun _ => ⟨rfl, isLong_mkHalf _ _ _ _ _ _ rfl⟩
theorem cSextH : ∀ a, Statement (.cSextH a) := fun _ => ⟨rfl, isLong_mkHalf _ _ _ _ _ _ rfl⟩
theorem cNot : ∀ a, Statement (.cNot a) := fun _ => ⟨rfl, isLong_mkHalf _ _ _ _ _ _ rfl⟩
theorem cMul : ∀ a b, Statement (.cMul a b) := fun _ _ => ⟨rfl, isLong_mkHalf _ _ _ _ _ _ rfl⟩
theorem cmPush : ∀ a b, Statement (.cmPush a b) := fun _ _ => ⟨rfl, isLong_mkHalf _ _ _ _ _ _ rfl⟩
theorem cmPop : ∀ a b, Statement (.cmPop a b) := fun _ _ => ⟨rfl, isLong_mkHalf _ _ _ _ _ _ rfl⟩
theorem cmPopretz : ∀ a b, Statement (.cmPopretz a b) := fun _ _ => ⟨rfl, isLong_mkHalf _ _ _ _ _ _ rfl⟩
theorem cmPopret : ∀ a b, Statement (.cmPopret a b) := fun _ _ => ⟨rfl, isLong_mkHalf _ _ _ _ _ _ rfl⟩
theorem cmMvsa01 : ∀ a b, Statement (.cmMvsa01 a b) := fun _ _ => ⟨rfl, isLong_mkHalf _ _ _ _ _ _ rfl⟩
theorem cmMva01s : ∀ a b, Statement (.cmMva01s a b) := fun _ _ => ⟨rfl, isLong_mkHalf _ _ _ _ _ _ rfl⟩

end Sys2Proof.Laws.EncodingFits
end

