-- ==== Sys2Proof/Laws/Pmp.lean ====
section
/-!
SUPPORT. Physical memory protection, said once: which entry decides an access, and what a write of a configuration register leaves in
each entry.
-/

namespace Sys2Proof.Machine

/-! ### Which entry decides -/

/-- The region of entry n holds the address. -/
def pmpHolds (plat : Platform) (h : Hart) (a : Word) (n : Fin 16) : Bool :=
  PmpEntry.matches plat.pmpGrain ⟨pmpCfgOf plat h n, pmpAddrOf plat h n, pmpLowOf plat h n⟩ a

/-- An entry that holds an address is on. -/
theorem PmpEntry.matches_on {grain : Nat} {e : PmpEntry} {a : Word} (h : e.matches grain a = true) :
    e.cfg.extractLsb' 3 2 ≠ 0#2 := by
  intro off
  simp [PmpEntry.matches, pmpMode, off] at h

theorem pmpDeciding_eq_none (plat : Platform) (h : Hart) (a : Word) (l : List (Fin 16)) :
    pmpDeciding plat h a l = none ↔ ∀ n ∈ l, pmpHolds plat h a n = false := by
  induction l with
  | nil => simp [pmpDeciding]
  | cons n rest ih => simp only [pmpDeciding, pmpHolds] at *; split <;> simp_all

/-- What decides is the configuration of an entry that holds the address. -/
theorem pmpDeciding_some {plat : Platform} {h : Hart} {a : Word} {l : List (Fin 16)} {c : Byte}
    (hc : pmpDeciding plat h a l = some c) : ∃ n, c = pmpCfgOf plat h n ∧ pmpHolds plat h a n = true := by
  induction l with
  | nil => cases hc
  | cons n rest ih =>
    simp only [pmpDeciding] at hc
    split at hc
    · next hm => cases hc; exact ⟨n, rfl, hm⟩
    · exact ih hc

/-- In a rising list the entry of lowest number that holds the address decides. -/
theorem pmpDeciding_first {plat : Platform} {h : Hart} {a : Word} {l : List (Fin 16)} {n : Fin 16} (hn : n ∈ l)
    (rising : l.Pairwise (· < ·)) (holds : pmpHolds plat h a n = true) (below : ∀ m, m < n → pmpHolds plat h a m = false) :
    pmpDeciding plat h a l = some (pmpCfgOf plat h n) := by
  unfold pmpHolds at holds below
  induction l with
  | nil => cases hn
  | cons m rest ih =>
    rcases List.mem_cons.1 hn with rfl | hr
    · simp [pmpDeciding, holds]
    · have hlt := (List.pairwise_cons.1 rising).1 n hr
      simp [pmpDeciding, below m hlt, ih hr (List.pairwise_cons.1 rising).2]

theorem pmpNumbers_rising : pmpNumbers.Pairwise (· < ·) := by decide

theorem mem_pmpNumbers (n : Fin 16) : n ∈ pmpNumbers := by revert n; decide

/-! ### The bits of an address register -/

/-- A word whose k low bits are ones. -/
theorem toNat_mod_of_low_ones {p : Word} {k : Nat} (ones : ∀ j, j < k → p.getLsbD j = true) : p.toNat % 2 ^ k = 2 ^ k - 1 := by
  apply Nat.eq_of_testBit_eq
  intro i
  rw [Nat.testBit_mod_two_pow, Nat.testBit_two_pow_sub_one]
  by_cases hi : i < k
  · simpa [hi, BitVec.testBit_toNat] using ones i hi
  · simp [hi]

/-- Counting up changes the trailing ones of a word and the 0 above them, and no other bit. -/
theorem getLsbD_xor_succ {p : Word} {k : Nat} (ones : ∀ j, j < k → p.getLsbD j = true) (zero : p.getLsbD k = false) {i : Nat}
    (hi : i < 32) : (p ^^^ (p + 1)).getLsbD i = decide (i ≤ k) := by
  have low := toNat_mod_of_low_ones ones
  have pos := Nat.two_pow_pos k
  have hz : p.toNat / 2 ^ k % 2 = 0 := by
    rw [← BitVec.testBit_toNat, Nat.testBit_eq_decide_div_mod_eq] at zero
    have := of_decide_eq_false zero
    omega
  have now : p.toNat = 2 ^ (k + 1) * (p.toNat / 2 ^ (k + 1)) + (2 ^ k - 1) := by
    have e := Nat.mod_pow_succ (x := p.toNat) (b := 2) (k := k)
    rw [hz] at e
    have := Nat.div_add_mod p.toNat (2 ^ (k + 1))
    omega
  have next : p.toNat + (1 : Word).toNat = 2 ^ (k + 1) * (p.toNat / 2 ^ (k + 1)) + 2 ^ k := by
    have : (1 : Word).toNat = 1 := rfl
    omega
  rw [BitVec.getLsbD_xor, ← BitVec.testBit_toNat, ← BitVec.testBit_toNat, BitVec.toNat_add]
  simp only [Nat.testBit_mod_two_pow, hi, decide_true, Bool.true_and]
  rw [next]
  generalize p.toNat / 2 ^ (k + 1) = q at *
  have hw : 2 ^ (k + 1) = 2 * 2 ^ k := Nat.pow_succ'
  rw [now, Nat.testBit_two_pow_mul_add _ (by omega), Nat.testBit_two_pow_mul_add _ (by omega)]
  by_cases hik : i ≤ k
  · simp only [Nat.lt_succ_of_le hik, if_true, hik, decide_true, Nat.testBit_two_pow_sub_one, Nat.testBit_two_pow]
    by_cases e : i = k
    · simp [e]
    · have : i < k := by omega
      have : k ≠ i := by omega
      simp [*]
  · have : ¬ i < k + 1 := by omega
    simp [this, hik]

/-- What NAPOT sees of an address register, bit by bit. -/
theorem getLsbD_pmpNapot (grain : Nat) (addr : Word) {j : Nat} (hj : j < 32) :
    (pmpNapot grain addr).getLsbD j = (addr.getLsbD j || decide (j + 1 < grain)) := by
  simp only [pmpNapot, lowOnes, BitVec.getLsbD_or, BitVec.getLsbD_ofNat, Nat.testBit_two_pow_sub_one, hj, decide_true,
    Bool.true_and]
  congr 1
  simp only [decide_eq_decide]
  omega

/-- What OFF and TOR see of an address register, as a number. -/
theorem toNat_pmpFloor (grain : Nat) (addr : Word) : (pmpFloor grain addr).toNat = addr.toNat / 2 ^ grain * 2 ^ grain := by
  apply Nat.eq_of_testBit_eq
  intro i
  rw [BitVec.testBit_toNat, Nat.testBit_mul_two_pow, Nat.testBit_div_two_pow, BitVec.testBit_toNat]
  simp only [pmpFloor, lowOnes, BitVec.getLsbD_and, BitVec.getLsbD_not, BitVec.getLsbD_ofNat, Nat.testBit_two_pow_sub_one]
  by_cases hi : i < 32
  · by_cases hg : i < grain
    · simp [hi, hg]
    · have : grain ≤ i := by omega
      simp [hi, hg, this]
  · rw [BitVec.getLsbD_of_ge addr i (by omega)]
    simp only [hi, decide_false, Bool.false_and]
    by_cases hg : grain ≤ i
    · rw [Nat.sub_add_cancel hg, BitVec.getLsbD_of_ge addr i (by omega), Bool.and_false]
    · simp [hg]

/-! ### What a write leaves -/

theorem Hart.setPmpCfgByte_other (plat : Platform) (h : Hart) {m n : Fin 16} (b : Byte) (hne : m ≠ n) :
    (h.setPmpCfgByte plat m b).pmpcfg[n] = h.pmpcfg[n] := by
  unfold Hart.setPmpCfgByte
  split
  · simp only [Fin.getElem_fin]; exact Vector.getElem_set_ne _ _ (fun e => hne (Fin.ext e))
  · rfl

/-- A configuration byte written: legalized where software can write the entry and it is not locked, else as before. -/
theorem Hart.setPmpCfgByte_same (plat : Platform) (h : Hart) (n : Fin 16) (b : Byte) :
    (h.setPmpCfgByte plat n b).pmpcfg[n] =
      if n.val < plat.pmpCount ∧ h.pmpcfg[n].getLsbD 7 = false then pmpLegalize plat h.pmpcfg[n] b else h.pmpcfg[n] := by
  unfold Hart.setPmpCfgByte
  by_cases hc : n.val < plat.pmpCount ∧ h.pmpcfg[n].getLsbD 7 = false
  · have : (decide (n.val < plat.pmpCount) && !pmpLocked h.pmpcfg[n]) = true := by
      unfold pmpLocked; simp only [hc.1, hc.2, decide_true, Bool.not_false, Bool.and_self]
    rw [if_pos this, if_pos hc]; simp
  · have : ¬ (decide (n.val < plat.pmpCount) && !pmpLocked h.pmpcfg[n]) = true := by
      unfold pmpLocked
      simpa only [Bool.and_eq_true, decide_eq_true_eq, Bool.not_eq_true'] using hc
    rw [if_neg this, if_neg hc]

end Sys2Proof.Machine
end

