-- ==== Sys2Proof/Laws/Step.lean ====
section
/-!
SUPPORT. What a step can do, said once: if it answers a next state, what was run; and what the Zcmp stores and the host's word do to
memory.
-/

namespace Sys2Proof.Machine

/-- The move to the next step keeps an outcome's kind. -/
theorem advanced_next {r : Result} {t : State} (h : advanced r = .next t) : ∃ u, r = .next u ∧ t = u.advance := by
  cases r with
  | next u => cases h; exact ⟨u, rfl, rfl⟩
  | fault f => cases h
  | refused r => cases h

/-- The code that was fetched stands for an instruction that ran, or it raised an illegal-instruction exception. -/
theorem runCode_next {c : Code} {s u : State} (h : runCode c s = .next u) :
    (∃ i, decode c = .ok i ∧ s.runsStaleBranch i = false ∧ exec i s = .next u) ∨
      ((∃ e, decode c = .error e) ∧ u = enterTrap (.exception .illegal) s) := by
  unfold runCode at h
  cases e : decode c with
  | error r => rw [e] at h; exact .inr ⟨⟨r, rfl⟩, raise_next h⟩
  | ok i =>
    rw [e] at h
    dsimp only at h
    split at h
    · cases h
    · next hb => exact .inl ⟨i, rfl, by simpa using hb, h⟩

/-- A fetch traps with cause 1 only. -/
theorem State.fetch_trap {s : State} {c : Cause} (h : s.fetch = .trap c) : c = .fetchFault := by
  have verdict {a : Word} {d : Cause} (hv : s.fetchVerdict a = .trap d) : d = .fetchFault := by
    unfold State.fetchVerdict at hv
    split at hv
    · cases hv; rfl
    · cases hv
  unfold State.fetch at h
  split at h
  · next hv => cases h; exact verdict hv
  · split at h
    · unfold State.fetchSecond at h
      split at h
      · cases h
      · split at h
        · next hv => cases h; exact verdict hv
        · cases h
    · cases h

/-- What runs at the pc: the fetched code, or the trap of the fetch. -/
theorem runInstruction_next {s u : State} (h : runInstruction s = .next u) :
    (∃ c, s.fetch = .code c ∧ runCode c s = .next u) ∨
      (s.fetch = .trap .fetchFault ∧ u = enterTrap (.exception .fetchFault) s) := by
  unfold runInstruction at h
  cases e : s.fetch with
  | code c => rw [e] at h; exact .inl ⟨c, rfl, h⟩
  | trap c => rw [e] at h; cases State.fetch_trap e; exact .inr ⟨rfl, raise_next h⟩
  | fault f => rw [e] at h; cases h

/-- A step that answers a next state took an interrupt, trapped at its fetch or at an illegal code, or ran an instruction that decodes;
then it moved on. -/
theorem step_next {s t : State} (h : step s = .next t) :
    ∃ u, t = u.advance ∧
      ((∃ irq, s.takenInterrupt = some irq ∧ u = enterTrap (.interrupt irq) s) ∨
        (s.takenInterrupt = none ∧
          ((∃ c i, s.fetch = .code c ∧ decode c = .ok i ∧ exec i s = .next u) ∨
            ∃ cause, u = enterTrap (.exception cause) s))) := by
  obtain ⟨u, hu, rfl⟩ := advanced_next h
  refine ⟨u, rfl, ?_⟩
  cases e : s.takenInterrupt with
  | some irq => rw [e] at hu; cases hu; exact .inl ⟨irq, rfl, rfl⟩
  | none =>
    rw [e] at hu
    refine .inr ⟨rfl, ?_⟩
    rcases runInstruction_next hu with ⟨c, hc, hr⟩ | ⟨_, rfl⟩
    · rcases runCode_next hr with ⟨i, hi, -, hx⟩ | ⟨_, rfl⟩
      · exact .inl ⟨c, i, hc, hi, hx⟩
      · exact .inr ⟨_, rfl⟩
    · exact .inr ⟨_, rfl⟩

/-! ### Zcmp -/

/-- An access of a push or pop that answers a next state: it reached memory and the rest ran, or its check trapped. -/
theorem stackAccess_next {v : Verdict} {a : Word} {s t : State} {body : Result} (h : stackAccess v a s body = .next t) :
    (v = .allowed ∧ s.plat.isDevice a = false ∧ body = .next t) ∨ ∃ c, v = .trap c ∧ t = enterTrap (.exception c) s := by
  rcases guarded_next h with ⟨e, h⟩ | h
  · split at h
    · cases h
    · next hd => exact .inl ⟨e, by simpa using hd, h⟩
  · exact .inr h

/-- A push that answers a next state: each store passed and the rest ran, or one store trapped after those before it. -/
theorem pushAll_next {regs : List RegIdx} {a : Word} {s t : State} {done : State → Result}
    (h : pushAll regs a s done = .next t) :
    (regs = [] ∧ done s = .next t) ∨
      ∃ r rest, regs = r :: rest ∧
        ((s.storeVerdict 4 (a - 4) = .allowed ∧ s.plat.isDevice (a - 4) = false ∧
            pushAll rest (a - 4) (s.store32 (a - 4) (s.reg r)) done = .next t) ∨
          ∃ c, s.storeVerdict 4 (a - 4) = .trap c ∧ t = enterTrap (.exception c) s) := by
  cases regs with
  | nil => exact .inl ⟨rfl, h⟩
  | cons r rest => exact .inr ⟨r, rest, rfl, stackAccess_next h⟩

/-- The checks of a pop that answer a next state: every load reaches memory and the rest ran, or a load trapped. -/
theorem popGuarded_next {regs : List RegIdx} {a : Word} {s t : State} {body : Result}
    (h : popGuarded regs a s body = .next t) :
    ((∀ k, k < regs.length → s.loadVerdict 4 (a - 4 * BitVec.ofNat 32 (k + 1)) = .allowed ∧
        s.plat.isDevice (a - 4 * BitVec.ofNat 32 (k + 1)) = false) ∧ body = .next t) ∨
      ∃ k c, k < regs.length ∧ s.loadVerdict 4 (a - 4 * BitVec.ofNat 32 (k + 1)) = .trap c ∧
        t = enterTrap (.exception c) s := by
  have first (a : Word) : a - 4 * BitVec.ofNat 32 (0 + 1) = a - 4 := by bv_omega
  have later (a : Word) (k : Nat) : a - 4 * BitVec.ofNat 32 (k + 1 + 1) = a - 4 - 4 * BitVec.ofNat 32 (k + 1) := by
    rw [BitVec.ofNat_add (k + 1) 1]; bv_omega
  induction regs generalizing a with
  | nil => exact .inl ⟨fun k hk => absurd hk (Nat.not_lt_zero k), h⟩
  | cons r rest ih =>
    rcases stackAccess_next h with ⟨hv, hd, h⟩ | ⟨c, hv, ht⟩
    · rcases ih h with ⟨hall, hb⟩ | ⟨k, c, hk, hc, ht⟩
      · refine .inl ⟨fun k hk => ?_, hb⟩
        cases k with
        | zero => rw [first]; exact ⟨hv, hd⟩
        | succ k => rw [later]; exact hall k (Nat.lt_of_succ_lt_succ hk)
      · exact .inr ⟨k + 1, c, Nat.succ_lt_succ hk, by rw [later]; exact hc, ht⟩
    · exact .inr ⟨0, c, Nat.succ_pos _, by rw [first]; exact hv, ht⟩

/-- A pop that answers a next state: every load reaches memory and the rest ran on the loaded registers, or a load trapped and
nothing was written. -/
theorem popThen_next {rlist : BitVec 4} {spimm : BitVec 2} {s t : State} {done : State → Result}
    (h : popThen rlist spimm s done = .next t) :
    let top := s.reg sp + stackAdjust rlist spimm
    let regs := (registerList rlist).reverse
    ((∀ k, k < regs.length → s.loadVerdict 4 (top - 4 * BitVec.ofNat 32 (k + 1)) = .allowed ∧
        s.plat.isDevice (top - 4 * BitVec.ofNat 32 (k + 1)) = false) ∧
        done ((popAll regs top s).setReg sp top) = .next t) ∨
      ∃ k c, k < regs.length ∧ s.loadVerdict 4 (top - 4 * BitVec.ofNat 32 (k + 1)) = .trap c ∧
        t = enterTrap (.exception c) s := popGuarded_next h

/-- The registers of a pop are all that it writes. -/
theorem popAll_keeps (regs : List RegIdx) (a : Word) (s : State) :
    (popAll regs a s).other = s.other ∧ (popAll regs a s).mem = s.mem ∧ (popAll regs a s).plat = s.plat ∧
      (popAll regs a s).hart.pc = s.hart.pc ∧ (popAll regs a s).hart.stale = s.hart.stale := by
  induction regs generalizing a s with
  | nil => exact ⟨rfl, rfl, rfl, rfl, rfl⟩
  | cons r rest ih => simpa [popAll] using ih (a - 4) (s.setReg r (s.load32 (a - 4)))

/-! ### The canonical form of memory -/

theorem Memory.place_wf {m : Memory} (a : Word) (b0 b1 b2 b3 : Byte) (h : m.wf = true) :
    (m.place a b0 b1 b2 b3).wf = true :=
  Memory.wf_write_word _ _ (Memory.wf_write_word _ _ (Memory.wf_write_word _ _ (Memory.wf_write_word _ _ h)))

theorem State.withFetchWord_wf {s : State} (nbits w : Nat) (h : s.mem.wf = true) : (s.withFetchWord nbits w).mem.wf = true :=
  Memory.place_wf _ _ _ _ _ h

/-- Reset leaves memory in its canonical form, whatever its contents are. -/
theorem State.resetWith_mem_wf (plat : Platform) (pc0 pc1 mtvec : Word) : (State.resetWith plat pc0 pc1 mtvec).mem.wf = true :=
  Memory.wf_ofCells plat.contents

theorem State.reset_mem_wf : State.reset.mem.wf = true := State.resetWith_mem_wf _ _ _ _

end Sys2Proof.Machine
end

