-- ==== Sys2Proof/Tests/Slice0.lean ====
section
/-!
SUPPORT. Tests: ill-formed instructions refused, words written out from the encodings of spec/30 and of each rule, single steps
from the vectors of spec/95 and spec/96 (named V1, V2, ...), and for each obligation with hypotheses a state and operands that
meet them.
-/

namespace Sys2Proof.Tests

open Sys2Proof.Machine

/-! ### Well-formedness: an ill-formed term for each check -/

theorem test_wf_branch_offset : (Instr.beq 1 2 3).wf = false ∧ (Instr.bge 1 2 3).wf = false ∧ (Instr.bgeu 1 2 3).wf = false ∧
    (Instr.blt 1 2 3).wf = false ∧ (Instr.bltu 1 2 3).wf = false ∧ (Instr.bne 1 2 3).wf = false := by decide
theorem test_wf_jump_offset : (Instr.jal 1 5).wf = false ∧ (Instr.cJal 5).wf = false ∧ (Instr.cJ 5).wf = false := by decide
theorem test_wf_pack : (Instr.pack 1 2 0).wf = false := by decide
theorem test_wf_fence : (Instr.fence 8 3 3 0 0).wf = false ∧ (Instr.fence 8 3 3 0 1).wf = true := by decide
theorem test_wf_cAddi4spn : (Instr.cAddi4spn 1 0).wf = false ∧ (Instr.cAddi4spn 1 6).wf = false := by decide
theorem test_wf_word_offset : (Instr.cLw 1 2 6).wf = false ∧ (Instr.cSw 1 2 1).wf = false ∧ (Instr.cLwsp 1 2).wf = false ∧
    (Instr.cSwsp 1 2).wf = false := by decide
theorem test_wf_half_offset : (Instr.cLhu 1 2 1).wf = false ∧ (Instr.cLh 1 2 3).wf = false ∧ (Instr.cSh 1 2 1).wf = false := by
  decide
theorem test_wf_cAddi : (Instr.cAddi 0 1).wf = false := by decide
theorem test_wf_cAddi16sp : (Instr.cAddi16sp 0).wf = false ∧ (Instr.cAddi16sp 8).wf = false := by decide
theorem test_wf_cLui : (Instr.cLui 2 1).wf = false ∧ (Instr.cLui 1 0).wf = false := by decide
theorem test_wf_cBranch_offset : (Instr.cBeqz 1 3).wf = false ∧ (Instr.cBnez 1 3).wf = false := by decide
theorem test_wf_cLwsp : (Instr.cLwsp 0 4).wf = false := by decide
theorem test_wf_cJump_register : (Instr.cJr 0).wf = false ∧ (Instr.cJalr 0).wf = false := by decide
theorem test_wf_cMove_source : (Instr.cMv 1 0).wf = false ∧ (Instr.cAdd 1 0).wf = false := by decide
theorem test_wf_register_list : (Instr.cmPush 3 0).wf = false ∧ (Instr.cmPop 3 0).wf = false ∧ (Instr.cmPopret 0 0).wf = false ∧
    (Instr.cmPopretz 2 0).wf = false ∧ (Instr.cmPush 4 0).wf = true := by decide
theorem test_wf_cmMvsa01 : (Instr.cmMvsa01 3 3).wf = false ∧ (Instr.cmMvsa01 3 4).wf = true := by decide

/-! ### Decoding: every instruction's word, its fields from the highest bit down -/

theorem test_decode_alu_register :
    decode (.word 0b0000000_01100_01011_000_01010_0110011) = .ok (.add 10 11 12) ∧
    decode (.word 0b0000000_01100_01011_111_01010_0110011) = .ok (.and 10 11 12) ∧
    decode (.word 0b0000000_01100_01011_110_01010_0110011) = .ok (.or 10 11 12) ∧
    decode (.word 0b0000000_01100_01011_001_01010_0110011) = .ok (.sll 10 11 12) ∧
    decode (.word 0b0000000_01100_01011_010_01010_0110011) = .ok (.slt 10 11 12) ∧
    decode (.word 0b0000000_01100_01011_011_01010_0110011) = .ok (.sltu 10 11 12) ∧
    decode (.word 0b0100000_01100_01011_101_01010_0110011) = .ok (.sra 10 11 12) ∧
    decode (.word 0b0000000_01100_01011_101_01010_0110011) = .ok (.srl 10 11 12) ∧
    decode (.word 0b0100000_01100_01011_000_01010_0110011) = .ok (.sub 10 11 12) ∧
    decode (.word 0b0000000_01100_01011_100_01010_0110011) = .ok (.xor 10 11 12) := by
  decide

theorem test_decode_alu_immediate :
    decode (.word 0b1010101_11100_01011_000_01010_0010011) = .ok (.addi 10 11 0xabc) ∧
    decode (.word 0b1010101_11100_01011_111_01010_0010011) = .ok (.andi 10 11 0xabc) ∧
    decode (.word 0b1010101_11100_01011_110_01010_0010011) = .ok (.ori 10 11 0xabc) ∧
    decode (.word 0b1010101_11100_01011_010_01010_0010011) = .ok (.slti 10 11 0xabc) ∧
    decode (.word 0b1010101_11100_01011_011_01010_0010011) = .ok (.sltiu 10 11 0xabc) ∧
    decode (.word 0b1010101_11100_01011_100_01010_0010011) = .ok (.xori 10 11 0xabc) ∧
    decode (.word 0b0000000_10011_01011_001_01010_0010011) = .ok (.slli 10 11 19) ∧
    decode (.word 0b0100000_10011_01011_101_01010_0010011) = .ok (.srai 10 11 19) ∧
    decode (.word 0b0000000_10011_01011_101_01010_0010011) = .ok (.srli 10 11 19) ∧
    decode (.word 0b10101011110011011110_01010_0010111) = .ok (.auipc 10 0xabcde) ∧
    decode (.word 0b10101011110011011110_01010_0110111) = .ok (.lui 10 0xabcde) := by
  decide

theorem test_decode_control :
    decode (.word 0b1010011_01011_01010_000_01101_1100011) = .ok (.beq 10 11 0x1a6c) ∧
    decode (.word 0b1010011_01011_01010_101_01101_1100011) = .ok (.bge 10 11 0x1a6c) ∧
    decode (.word 0b1010011_01011_01010_111_01101_1100011) = .ok (.bgeu 10 11 0x1a6c) ∧
    decode (.word 0b1010011_01011_01010_100_01101_1100011) = .ok (.blt 10 11 0x1a6c) ∧
    decode (.word 0b1010011_01011_01010_110_01101_1100011) = .ok (.bltu 10 11 0x1a6c) ∧
    decode (.word 0b1010011_01011_01010_001_01101_1100011) = .ok (.bne 10 11 0x1a6c) ∧
    decode (.word 0b11110100110110100101_01010_1101111) = .ok (.jal 10 0x1a5f4c) ∧
    decode (.word 0b1010101_11100_01011_000_01010_1100111) = .ok (.jalr 10 11 0xabc) := by
  decide

theorem test_decode_load_store :
    decode (.word 0b1010101_11100_01011_000_01010_0000011) = .ok (.lb 10 11 0xabc) ∧
    decode (.word 0b1010101_11100_01011_100_01010_0000011) = .ok (.lbu 10 11 0xabc) ∧
    decode (.word 0b1010101_11100_01011_001_01010_0000011) = .ok (.lh 10 11 0xabc) ∧
    decode (.word 0b1010101_11100_01011_101_01010_0000011) = .ok (.lhu 10 11 0xabc) ∧
    decode (.word 0b1010101_11100_01011_010_01010_0000011) = .ok (.lw 10 11 0xabc) ∧
    decode (.word 0b1010101_01100_01011_000_11100_0100011) = .ok (.sb 11 12 0xabc) ∧
    decode (.word 0b1010101_01100_01011_001_11100_0100011) = .ok (.sh 11 12 0xabc) ∧
    decode (.word 0b1010101_01100_01011_010_11100_0100011) = .ok (.sw 11 12 0xabc) := by
  decide

theorem test_decode_muldiv :
    decode (.word 0b0000001_01100_01011_100_01010_0110011) = .ok (.div 10 11 12) ∧
    decode (.word 0b0000001_01100_01011_101_01010_0110011) = .ok (.divu 10 11 12) ∧
    decode (.word 0b0000001_01100_01011_000_01010_0110011) = .ok (.mul 10 11 12) ∧
    decode (.word 0b0000001_01100_01011_001_01010_0110011) = .ok (.mulh 10 11 12) ∧
    decode (.word 0b0000001_01100_01011_010_01010_0110011) = .ok (.mulhsu 10 11 12) ∧
    decode (.word 0b0000001_01100_01011_011_01010_0110011) = .ok (.mulhu 10 11 12) ∧
    decode (.word 0b0000001_01100_01011_110_01010_0110011) = .ok (.rem 10 11 12) ∧
    decode (.word 0b0000001_01100_01011_111_01010_0110011) = .ok (.remu 10 11 12) := by
  decide

theorem test_decode_atomics :
    decode (.word 0b00000_0_0_01100_01011_010_01010_0101111) = .ok (.amoaddW 10 11 12 false false) ∧
    decode (.word 0b01100_0_1_01100_01011_010_01010_0101111) = .ok (.amoandW 10 11 12 false true) ∧
    decode (.word 0b10100_1_0_01100_01011_010_01010_0101111) = .ok (.amomaxW 10 11 12 true false) ∧
    decode (.word 0b11100_1_1_01100_01011_010_01010_0101111) = .ok (.amomaxuW 10 11 12 true true) ∧
    decode (.word 0b10000_0_0_01100_01011_010_01010_0101111) = .ok (.amominW 10 11 12 false false) ∧
    decode (.word 0b11000_0_1_01100_01011_010_01010_0101111) = .ok (.amominuW 10 11 12 false true) ∧
    decode (.word 0b01000_1_0_01100_01011_010_01010_0101111) = .ok (.amoorW 10 11 12 true false) ∧
    decode (.word 0b00001_1_1_01100_01011_010_01010_0101111) = .ok (.amoswapW 10 11 12 true true) ∧
    decode (.word 0b00100_0_0_01100_01011_010_01010_0101111) = .ok (.amoxorW 10 11 12 false false) ∧
    decode (.word 0b00011_0_1_01100_01011_010_01010_0101111) = .ok (.scW 10 11 12 false true) ∧
    decode (.word 0b00010_1_0_00000_01011_010_01010_0101111) = .ok (.lrW 10 11 true false) := by
  decide

theorem test_decode_zba_zbb :
    decode (.word 0b0010000_01100_01011_010_01010_0110011) = .ok (.sh1add 10 11 12) ∧
    decode (.word 0b0010000_01100_01011_100_01010_0110011) = .ok (.sh2add 10 11 12) ∧
    decode (.word 0b0010000_01100_01011_110_01010_0110011) = .ok (.sh3add 10 11 12) ∧
    decode (.word 0b0100000_01100_01011_111_01010_0110011) = .ok (.andn 10 11 12) ∧
    decode (.word 0b0000101_01100_01011_110_01010_0110011) = .ok (.max 10 11 12) ∧
    decode (.word 0b0000101_01100_01011_111_01010_0110011) = .ok (.maxu 10 11 12) ∧
    decode (.word 0b0000101_01100_01011_100_01010_0110011) = .ok (.min 10 11 12) ∧
    decode (.word 0b0000101_01100_01011_101_01010_0110011) = .ok (.minu 10 11 12) ∧
    decode (.word 0b0100000_01100_01011_110_01010_0110011) = .ok (.orn 10 11 12) ∧
    decode (.word 0b0110000_01100_01011_001_01010_0110011) = .ok (.rol 10 11 12) ∧
    decode (.word 0b0110000_01100_01011_101_01010_0110011) = .ok (.ror 10 11 12) ∧
    decode (.word 0b0100000_01100_01011_100_01010_0110011) = .ok (.xnor 10 11 12) ∧
    decode (.word 0b011000000000_01011_001_01010_0010011) = .ok (.clz 10 11) ∧
    decode (.word 0b011000000010_01011_001_01010_0010011) = .ok (.cpop 10 11) ∧
    decode (.word 0b011000000001_01011_001_01010_0010011) = .ok (.ctz 10 11) ∧
    decode (.word 0b001010000111_01011_101_01010_0010011) = .ok (.orcB 10 11) ∧
    decode (.word 0b011010011000_01011_101_01010_0010011) = .ok (.rev8 10 11) ∧
    decode (.word 0b011000000100_01011_001_01010_0010011) = .ok (.sextB 10 11) ∧
    decode (.word 0b011000000101_01011_001_01010_0010011) = .ok (.sextH 10 11) ∧
    decode (.word 0b0110000_10011_01011_101_01010_0010011) = .ok (.rori 10 11 19) ∧
    decode (.word 0b0000100_00000_01011_100_01010_0110011) = .ok (.zextH 10 11) := by
  decide

theorem test_decode_zbs_zbkb :
    decode (.word 0b0100100_01100_01011_001_01010_0110011) = .ok (.bclr 10 11 12) ∧
    decode (.word 0b0100100_10011_01011_001_01010_0010011) = .ok (.bclri 10 11 19) ∧
    decode (.word 0b0100100_01100_01011_101_01010_0110011) = .ok (.bext 10 11 12) ∧
    decode (.word 0b0100100_10011_01011_101_01010_0010011) = .ok (.bexti 10 11 19) ∧
    decode (.word 0b0110100_01100_01011_001_01010_0110011) = .ok (.binv 10 11 12) ∧
    decode (.word 0b0110100_10011_01011_001_01010_0010011) = .ok (.binvi 10 11 19) ∧
    decode (.word 0b0010100_01100_01011_001_01010_0110011) = .ok (.bset 10 11 12) ∧
    decode (.word 0b0010100_10011_01011_001_01010_0010011) = .ok (.bseti 10 11 19) ∧
    decode (.word 0b011010000111_01011_101_01010_0010011) = .ok (.brev8 10 11) ∧
    decode (.word 0b0000100_01100_01011_100_01010_0110011) = .ok (.pack 10 11 12) ∧
    decode (.word 0b0000100_01100_01011_111_01010_0110011) = .ok (.packh 10 11 12) ∧
    decode (.word 0b000010001111_01011_101_01010_0010011) = .ok (.unzip 10 11) ∧
    decode (.word 0b000010001111_01011_001_01010_0010011) = .ok (.zip 10 11) := by
  decide

theorem test_decode_system :
    decode (.word 0b1001_1010_0101_01011_000_01100_0001111) = .ok (.fence 9 10 5 11 12) ∧
    decode (.word 0b1000_0011_0011_00000_000_00000_0001111) = .ok (.fenceTso) ∧
    decode (.word 0b101010111100_01011_001_01100_0001111) = .ok (.fenceI 0xabc 11 12) ∧
    decode (.word 0b001101000001_10011_011_01010_1110011) = .ok (.csrrc 10 0x341 19) ∧
    decode (.word 0b001101000001_10011_111_01010_1110011) = .ok (.csrrci 10 0x341 19) ∧
    decode (.word 0b001101000001_10011_010_01010_1110011) = .ok (.csrrs 10 0x341 19) ∧
    decode (.word 0b001101000001_10011_110_01010_1110011) = .ok (.csrrsi 10 0x341 19) ∧
    decode (.word 0b001101000001_10011_001_01010_1110011) = .ok (.csrrw 10 0x341 19) ∧
    decode (.word 0b001101000001_10011_101_01010_1110011) = .ok (.csrrwi 10 0x341 19) ∧
    decode (.word 0b000000000001_00000_000_00000_1110011) = .ok (.ebreak) ∧
    decode (.word 0b000000000000_00000_000_00000_1110011) = .ok (.ecall) ∧
    decode (.word 0b0011000_00010_00000_000_00000_1110011) = .ok (.mret) ∧
    decode (.word 0b0001000_00101_00000_000_00000_1110011) = .ok (.wfi) := by
  decide

theorem test_decode_compressed :
    decode (.half 0b000_00101111_010_00) = .ok (.cAddi4spn 2 0x2cc) ∧
    decode (.half 0b010_011_101_11_010_00) = .ok (.cLw 2 5 0x5c) ∧
    decode (.half 0b110_011_101_11_010_00) = .ok (.cSw 5 2 0x5c) ∧
    decode (.half 0b000_1_00000_01100_01) = .ok (.cNop 44) ∧
    decode (.half 0b000_1_10011_01100_01) = .ok (.cAddi 19 44) ∧
    decode (.half 0b001_10110101011_01) = .ok (.cJal 0xb6a) ∧
    decode (.half 0b010_1_10011_01100_01) = .ok (.cLi 19 44) ∧
    decode (.half 0b011_1_00010_11010_01) = .ok (.cAddi16sp 0x2d0) ∧
    decode (.half 0b011_1_10011_01100_01) = .ok (.cLui 19 44) ∧
    decode (.half 0b100_0_00_101_10011_01) = .ok (.cSrli 5 19) ∧
    decode (.half 0b100_0_01_101_10011_01) = .ok (.cSrai 5 19) ∧
    decode (.half 0b100_1_10_101_01100_01) = .ok (.cAndi 5 44) ∧
    decode (.half 0b100_0_11_101_00_010_01) = .ok (.cSub 5 2) ∧
    decode (.half 0b100_0_11_101_01_010_01) = .ok (.cXor 5 2) ∧
    decode (.half 0b100_0_11_101_10_010_01) = .ok (.cOr 5 2) ∧
    decode (.half 0b100_0_11_101_11_010_01) = .ok (.cAnd 5 2) ∧
    decode (.half 0b101_10110101011_01) = .ok (.cJ 0xb6a) ∧
    decode (.half 0b110_101_101_01011_01) = .ok (.cBeqz 5 0x16a) ∧
    decode (.half 0b111_101_101_01011_01) = .ok (.cBnez 5 0x16a) ∧
    decode (.half 0b000_0_10011_10101_10) = .ok (.cSlli 19 21) ∧
    decode (.half 0b010_1_10011_10110_10) = .ok (.cLwsp 19 0xb4) ∧
    decode (.half 0b1000_10011_00000_10) = .ok (.cJr 19) ∧
    decode (.half 0b1000_10011_01100_10) = .ok (.cMv 19 12) ∧
    decode (.half 0b1001_00000_00000_10) = .ok (.cEbreak) ∧
    decode (.half 0b1001_10011_00000_10) = .ok (.cJalr 19) ∧
    decode (.half 0b1001_10011_01100_10) = .ok (.cAdd 19 12) ∧
    decode (.half 0b110_110110_10011_10) = .ok (.cSwsp 19 0xb4) := by
  decide

theorem test_decode_zcb_zcmp :
    decode (.half 0b100000_101_10_010_00) = .ok (.cLbu 2 5 1) ∧
    decode (.half 0b100001_101_0_1_010_00) = .ok (.cLhu 2 5 2) ∧
    decode (.half 0b100001_101_1_1_010_00) = .ok (.cLh 2 5 2) ∧
    decode (.half 0b100010_101_01_010_00) = .ok (.cSb 5 2 2) ∧
    decode (.half 0b100011_101_0_1_010_00) = .ok (.cSh 5 2 2) ∧
    decode (.half 0b100111_101_11_000_01) = .ok (.cZextB 5) ∧
    decode (.half 0b100111_101_11_001_01) = .ok (.cSextB 5) ∧
    decode (.half 0b100111_101_11_010_01) = .ok (.cZextH 5) ∧
    decode (.half 0b100111_101_11_011_01) = .ok (.cSextH 5) ∧
    decode (.half 0b100111_101_11_101_01) = .ok (.cNot 5) ∧
    decode (.half 0b100111_101_10_010_01) = .ok (.cMul 5 2) ∧
    decode (.half 0b101_11000_1101_10_10) = .ok (.cmPush 13 2) ∧
    decode (.half 0b101_11010_1101_10_10) = .ok (.cmPop 13 2) ∧
    decode (.half 0b101_11100_1101_10_10) = .ok (.cmPopretz 13 2) ∧
    decode (.half 0b101_11110_1101_10_10) = .ok (.cmPopret 13 2) ∧
    decode (.half 0b101011_010_01_101_10) = .ok (.cmMvsa01 2 5) ∧
    decode (.half 0b101011_010_11_101_10) = .ok (.cmMva01s 2 5) := by
  decide

/-- The numbering of spec/opcode_table.json: the first parcel is the low half; bits above those given are 0. -/
theorem test_decodeTableWord : decodeTableWord 32 0x00c58533 = some (.add 10 11 12) ∧
    decodeTableWord 16 0xb866 = some (.cmPush 6 1) ∧ decodeTableWord 16 0x0000 = none := by decide

/-! ### Single steps from the spec's vectors -/

/-- No interrupt, no refused exclusive write, no choice of an old byte. -/
def quiet : Inputs where
  meip := false
  msip := false
  mtip := false
  interruptDeferred := false
  exclusiveRefused := false
  cycle := 0
  time := 0
  csrDraw := 0
  deviceData := 0
  deviceCode := 0
  fetchPicks := []

/-- The state that the vectors start from: pc 0x20000000, mtvec 0x20000400, M-mode, the given registers. -/
def start (regs : List (RegIdx × Word)) : State :=
  regs.foldl (fun s e => s.setReg e.1 e.2) { State.reset with
    hart := { State.reset.hart with pc := 0x20000000, mtvec := 0x20000400 }, script := [quiet] }

/-- A word put in memory. -/
def put (s : State) (a v : Word) : State :=
  { s with
    mem := s.mem.place a (v.extractLsb' 0 8) (v.extractLsb' 8 8) (v.extractLsb' 16 8) (v.extractLsb' 24 8) }

/-- The state as U-mode. -/
def inUser (s : State) : State := { s with hart := { s.hart with priv := .user } }

/-- The next state, or reset where there is none. -/
def Result.state : Result → State
  | .next t => t
  | _ => State.reset

/-- The state after one step that runs the given word. -/
def after (w : Nat) (s : State) : State := Result.state (step (s.withFetchWord 32 w))

/-- V1. -/
theorem test_add_wraps :
    let t := after 0x00c58533 (start [(11, 0x7fffffff), (12, 1)])
    t.reg 10 = 0x80000000 ∧ t.hart.pc = 0x20000004 := by decide

/-- V4. -/
theorem test_sub :
    let t := after 0x40c58533 (start [(12, 1)])
    t.reg 10 = 0xffffffff := by decide

/-- V10. -/
theorem test_sll_takes_five_bits :
    let t := after 0x00c59533 (start [(11, 0x80000001), (12, 0x20)])
    t.reg 10 = 0x80000001 := by decide

/-- V13. -/
theorem test_sra :
    let t := after 0x40c5d533 (start [(11, 0x80000000), (12, 31)])
    t.reg 10 = 0xffffffff := by decide

/-- V18. -/
theorem test_slt_signed :
    let t := after 0x00c5a533 (start [(11, 0x80000000), (12, 0x7fffffff)])
    t.reg 10 = 1 := by decide

/-- V29. -/
theorem test_sltiu_extends_then_unsigned :
    let t := after 0xfff5b513 (start [(11, 0xfffffffe)])
    t.reg 10 = 1 := by decide

/-- V37. -/
theorem test_lui :
    let t := after 0xfffff537 (start [])
    t.reg 10 = 0xfffff000 := by decide

/-- V39, at pc 0x20000000. -/
theorem test_auipc :
    let t := after 0xfffff517 (start [])
    t.reg 10 = 0x1ffff000 := by decide

/-- V43 with the offset -8 taken from 0x20000000. -/
theorem test_bne_back :
    let t := after 0xfeb51ce3 (start [(10, 7), (11, 8)])
    t.hart.pc = 0x1ffffff8 := by decide

/-- V45. -/
theorem test_blt_signed :
    let t := after 0x7eb54fe3 (start [(10, 0xffffffff), (11, 1)])
    t.hart.pc = 0x20000ffe := by decide

/-- V46. -/
theorem test_bltu_not_taken :
    let t := after 0x7eb56fe3 (start [(10, 0xffffffff), (11, 1)])
    t.hart.pc = 0x20000004 := by decide

/-- V56. -/
theorem test_jal :
    let t := after 0x7ffff0ef (start [])
    t.reg 1 = 0x20000004 ∧ t.hart.pc = 0x200ffffe := by decide

/-- V58. -/
theorem test_jalr_old_source :
    let t := after 0x00050567 (start [(10, 0x20000200)])
    t.reg 10 = 0x20000004 ∧ t.hart.pc = 0x20000200 := by decide

/-- V57. -/
theorem test_jalr_clears_bit0 :
    let t := after 0x004500e7 (start [(10, 0x20000101)])
    t.hart.pc = 0x20000104 := by decide

/-- V65. -/
theorem test_lb :
    let t := after 0x00358503 (put (start [(11, 0x20001000)]) 0x20001000 0x80c3a5f1)
    t.reg 10 = 0xffffff80 := by decide

/-- V68. -/
theorem test_lhu :
    let t := after 0x0005d503 (put (start [(11, 0x20001000)]) 0x20001000 0x80c3a5f1)
    t.reg 10 = 0x0000a5f1 := by decide

/-- V62. -/
theorem test_lw :
    let t := after 0x0005a503 (put (start [(11, 0x20001000)]) 0x20001000 0x80c3a5f1)
    t.reg 10 = 0x80c3a5f1 := by decide

/-- V75. -/
theorem test_lw_misaligned :
    let t := after 0x0025a503 (start [(11, 0x20001000)])
    t.hart.mcause = 4 ∧ t.hart.mepc = 0x20000000 ∧ t.hart.pc = 0x20000400 := by decide

/-- V76. -/
theorem test_lw_fault :
    let t := after 0x0005a503 (start [(11, 0xe0000000)])
    t.hart.mcause = 5 ∧ t.hart.mepc = 0x20000000 ∧ t.hart.pc = 0x20000400 := by decide

/-- V84 at a hole. -/
theorem test_sw_misaligned_before_fault :
    let t := after 0x00a5a0a3 (start [(11, 0xe0000000)])
    t.hart.mcause = 6 ∧ t.hart.mepc = 0x20000000 ∧ t.hart.pc = 0x20000400 := by decide

/-- V79. -/
theorem test_sh :
    let t := after 0x00a59123 (start [(10, 0xaabbccdd), (11, 0x20001000)])
    t.wordAt 0x20001000 = 0xccdd0000 := by decide

/-- V80. -/
theorem test_sb :
    let t := after 0x00a581a3 (start [(10, 0xaabbccdd), (11, 0x20001000)])
    t.wordAt 0x20001000 = 0xdd000000 := by decide

/-- V95. -/
theorem test_mulhsu :
    let t := after 0x02c5a533 (start [(11, 0x80000000), (12, 0x80000000)])
    t.reg 10 = 0xc0000000 := by decide

/-- V92. -/
theorem test_mulh :
    let t := after 0x02c59533 (start [(11, 0x80000000), (12, 0x7fffffff)])
    t.reg 10 = 0xc0000000 := by decide

/-- V98. -/
theorem test_div_rounds_to_zero :
    let t := after 0x02c5c533 (start [(11, 0xfffffff9), (12, 2)])
    t.reg 10 = 0xfffffffd := by decide

/-- V101. -/
theorem test_div_overflow :
    let t := after 0x02c5c533 (start [(11, 0x80000000), (12, 0xffffffff)])
    t.reg 10 = 0x80000000 := by decide

/-- V100. -/
theorem test_div_by_zero :
    let t := after 0x02c5c533 (start [(11, 0x3039)])
    t.reg 10 = 0xffffffff := by decide

/-- V106. -/
theorem test_rem_sign :
    let t := after 0x02c5e533 (start [(11, 0xfffffff9), (12, 2)])
    t.reg 10 = 0xffffffff := by decide

/-- V113. -/
theorem test_lr :
    let t := after 0x1005a52f (put (start [(11, 0x20001000), (12, 0x11111111)]) 0x20001000 0xcafef00d)
    t.reg 10 = 0xcafef00d ∧ t.hart.localMonitor = true := by decide

/-- V118. -/
theorem test_sc_succeeds :
    let t := after 0x18c5a52f ((put (start [(11, 0x20001000), (12, 0x11111111)]) 0x20001000 0xcafef00d).reserve 0x20001000)
    t.reg 10 = 0 ∧ t.wordAt 0x20001000 = 0x11111111 ∧ t.hart.localMonitor = false ∧ t.hart.pc = 0x20000004 := by decide

/-- V119. -/
theorem test_sc_fails :
    let t := after 0x18c5a52f (put (start [(11, 0x20001000), (12, 0x11111111)]) 0x20001000 0xcafef00d)
    t.reg 10 = 1 ∧ t.wordAt 0x20001000 = 0xcafef00d := by decide

/-- V124. -/
theorem test_amoadd :
    let t := after 0x00c5a52f (put (start [(11, 0x20001000), (12, 2)]) 0x20001000 0xffffffff)
    t.reg 10 = 0xffffffff ∧ t.wordAt 0x20001000 = 1 := by decide

/-- 46 R333. -/
theorem test_orcB :
    let t := after 0x2875d513 (start [(11, 0x00010200)])
    t.reg 10 = 0x00ffff00 := by decide

/-- 47 R364: the low half to the even places. -/
theorem test_zip :
    let t := after 0x08f59513 (start [(11, 0x0000ffff)])
    t.reg 10 = 0x55555555 := by decide

/-- V254. -/
theorem test_cSext :
    let t := after 0x9d65 (start [(10, 0x80)])
    t.reg 10 = 0xffffff80 ∧ t.hart.pc = 0x20000002 := by decide

/-- V258. -/
theorem test_cMul :
    let t := after 0x9d4d (start [(10, 0x00010001), (11, 0x00010001)])
    t.reg 10 = 0x00020001 := by decide

/-- V261. -/
theorem test_cmPush :
    let t := after 0xb866 (start [(2, 0x20002000), (1, 0x20000101), (8, 0x50), (9, 0x51)])
    t.reg 2 = 0x20001fe0 ∧ t.wordAt 0x20001ff4 = 0x20000101 ∧ t.wordAt 0x20001ff8 = 0x50 ∧ t.wordAt 0x20001ffc = 0x51 := by decide

/-- 48 R387, rlist 4: ra, a0 and the jump. -/
theorem test_cmPopretz :
    let t := after 0xbc42 (put (start [(2, 0x20002000), (10, 7)]) 0x2000200c 0x20000203)
    t.reg 1 = 0x20000203 ∧ t.reg 2 = 0x20002010 ∧ t.reg 10 = 0 ∧ t.hart.pc = 0x20000202 := by decide

/-- V263, where the second store leaves SRAM: the first store has happened, sp stays. -/
theorem test_cmPush_faults_late :
    let t := after 0xb862 (start [(2, 0x20000004), (9, 0x51)])
    t.wordAt 0x20000000 = 0x51 ∧ t.reg 2 = 0x20000004 ∧ t.hart.mcause = 7 ∧ t.hart.mepc = 0x20000000 ∧ t.hart.pc = 0x20000400 := by decide

/-- V272. -/
theorem test_cmMvsa01 :
    let t := after 0xafaa (start [(10, 0xa0), (11, 0xa1)])
    t.reg 23 = 0xa0 ∧ t.reg 18 = 0xa1 := by decide

/-- V283. -/
theorem test_csrrs :
    let t := after 0x3405a573 (start [(11, 0x0000ff00)])
    t.reg 10 = 0 ∧ t.hart.mscratch = 0x0000ff00 := by decide

/-- V293. -/
theorem test_csrrs_read_only :
    let t := after 0xf115a573 (start [])
    t.hart.mcause = 2 ∧ t.hart.mepc = 0x20000000 ∧ t.hart.pc = 0x20000400 := by decide

/-- V308. -/
theorem test_illegal :
    let t := after 0xffffffff (start [])
    t.hart.mcause = 2 ∧ t.hart.mepc = 0x20000000 ∧ t.hart.pc = 0x20000400 := by decide

/-- V296: an M-mode register from U-mode. -/
theorem test_csrrs_user :
    let t := Result.state (exec (.csrrs 10 0x340 0) (inUser (start [])))
    t.hart.mcause = 2 ∧ t.hart.priv = .machine ∧ t.hart.mstatus.mpp = .user ∧ t.reg 10 = 0 := by decide

/-- V299: ecall from U-mode. -/
theorem test_ecall_user :
    let t := Result.state (exec .ecall (inUser (start [])))
    t.hart.mcause = 8 ∧ t.hart.mepc = 0x20000000 ∧ t.hart.priv = .machine ∧ t.hart.mstatus.mpp = .user := by decide

/-- V304: mret to U-mode clears MPRV. -/
theorem test_mret :
    let s := start []
    let t := Result.state (exec .mret { s with hart := { s.hart with
      mepc := 0x20000100, mstatus := { s.hart.mstatus with mpie := true, mpp := .user, mprv := true } } })
    t.hart.pc = 0x20000100 ∧ t.hart.priv = .user ∧ t.hart.mstatus.word = 0x88 := by decide

/-- A word read from a device is what the device answers (20 R97). -/
theorem test_lw_device :
    let t := after 0x0005a503 { start [(11, 0xd0000000)] with script := [{ quiet with deviceData := 0x80c3a5f1 }] }
    t.reg 10 = 0x80c3a5f1 ∧ t.hart.pc = 0x20000004 := by decide

/-- A store to a device leaves memory as it is (20 R97). -/
theorem test_sw_device :
    let t := after 0x00a5a023 (start [(10, 0xaabbccdd), (11, 0x40000000)])
    t.mem.read32 0x40000000 = 0 ∧ t.hart.pc = 0x20000004 ∧ t.hart.mcause = 0 := by decide

/-- 44 R257 and R272 at a device that supports no exclusive access: rd 1, the local monitor clear. -/
theorem test_sc_device :
    let t := after 0x18c5a52f ((start [(11, 0x40000000), (12, 9)]).setLocalMonitor true)
    t.reg 10 = 1 ∧ t.hart.localMonitor = false ∧ t.hart.pc = 0x20000004 := by decide

/-- A NAPOT region of 64 bytes at 0x20001000 and the bytes beside it (Privileged Architecture 3.7). -/
theorem test_pmp_napot :
    let h := { State.reset.hart with
      pmpcfg := State.reset.hart.pmpcfg.set 0 0x19, pmpaddr := State.reset.hart.pmpaddr.set 0 0x08000407 }
    let p := pmpAllows defaultPlatform h .user
    p .read 0x20001000 = true ∧ p .read 0x2000103c = true ∧ p .read 0x20001040 = false ∧ p .read 0x20000ffc = false ∧
      p .write 0x20001000 = false := by decide

/-- A TOR region from 0x20001000 up to 0x20001020 (Privileged Architecture 3.7). -/
theorem test_pmp_tor :
    let h := { State.reset.hart with
      pmpcfg := State.reset.hart.pmpcfg.set 1 0x0b,
      pmpaddr := (State.reset.hart.pmpaddr.set 0 0x08000400).set 1 0x08000408 }
    let p := pmpAllows defaultPlatform h .user
    p .write 0x20001000 = true ∧ p .write 0x2000101c = true ∧ p .write 0x20001020 = false ∧ p .write 0x20000ffc = false ∧
      p .execute 0x20001000 = false := by decide

/-- The contents of ROM after reset are the platform's (10 R77): the first byte that they give for an address. -/
theorem test_reset_contents :
    let s := State.resetWith { defaultPlatform with contents := [(0x7dfd, 0x90), (0x7dfc, 0x02), (0x7dfd, 0x55)] } 0x7dfc 0 0
    s.mem.read16 0x7dfc = 0x9002 ∧ s.mem.wf = true := by decide

/-- I6: the software interrupt before the timer's, vectored. -/
theorem test_interrupt_vectored :
    let s := start []
    let t := Result.state (step { s with script := [{ quiet with msip := true, mtip := true }], hart := { s.hart with
      mie := 0x88, mtvec := 0x20000401, mstatus := { s.hart.mstatus with mie := true } } })
    t.hart.pc = 0x2000040c ∧ t.hart.mcause = 0x80000003 ∧ t.hart.mstatus.word = 0x1880 := by decide

/-- What the host's word does: step runs it as the first instruction after reset, whatever the free inputs are. -/
theorem test_first_instruction :
    let t := after 0x12300513 State.reset
    t.reg 10 = 0x123 ∧ t.hart.pc = 0x7e00 := by decide

/-! ### For each obligation with hypotheses, a state and operands that meet them -/

/-- `start` with a platform whose one region holds everything up to the last address. -/
def everywhere (kind : RegionKind) : Platform :=
  { defaultPlatform with regions := [{ base := 0, size := 2 ^ 32, kind := kind, exclusive := true, faults := [] }] }

/-- U-mode with one PMP entry that lets it do everything everywhere. -/
def userFree (s : State) : State :=
  { s with hart := { s.hart with priv := .user, pmpcfg := s.hart.pmpcfg.set 0 0x1f, pmpaddr := s.hart.pmpaddr.set 0 0xffffffff } }

/-- x11 in SRAM, x12 some value, sp in SRAM. -/
def data : State := start [(11, 0x20001000), (12, 0x11111111), (2, 0x20002000), (8, 0x20001100)]

theorem test_witness_DecodeOfEncodeLong : (Instr.scW 31 1 2 true false).wf = true ∧ (Instr.scW 31 1 2 true false).length = 4 := by
  decide
theorem test_witness_DecodeOfEncodeShort : (Instr.cmPop 15 3).wf = true ∧ (Instr.cmPop 15 3).length = 2 := by decide
theorem test_witness_EncodeOfDecode : decode (.half 0x9002) = .ok .cEbreak ∧ decode (.word 0x73) = .ok .ecall := by decide
theorem test_witness_ReservedEncodingsRejected : (0#4).toNat < 4 ∧ (3#4).toNat < 4 ∧ (1#7).getLsbD 0 = true ∧ (1#5) ≠ 0 := by
  decide
theorem test_witness_ZcmpRegisterLists : 4 ≤ (4#4).toNat ∧ 4 ≤ (15#4).toNat := by decide

/-- A 32-bit instruction, and a 16-bit one in the last parcel of SRAM. -/
theorem test_witness_StepRunsDecodedInstruction :
    ∀ e ∈ [((start []).withFetchWord 32 0x00c58533, Instr.add 10 11 12),
      (((start []).setPc 0x20081ffe).withFetchWord 16 0x9d75, Instr.cNot 2)],
    e.1.pendingInterrupt = none ∧ e.1.fetchVerdict e.1.hart.pc = .allowed ∧ e.1.plat.isDevice e.1.hart.pc = false ∧
    (isLong (e.1.mem.read16 e.1.hart.pc) = true →
      e.1.hart.pc + 2 ≠ 0 ∧ e.1.fetchVerdict (e.1.hart.pc + 2) = .allowed ∧ e.1.plat.isDevice (e.1.hart.pc + 2) = false) ∧
    (∀ k, k < e.2.length → e.1.hart.heldValues (e.1.hart.pc + BitVec.ofNat 32 k).toNat = []) ∧
    decode (Code.ofParcels (e.1.mem.read16 e.1.hart.pc) (e.1.mem.read16 (e.1.hart.pc + 2))) = .ok e.2 := by decide

theorem test_witness_AdvanceBetweenSteps : ({ start [] with turns := [true] }).turns.head? = some true ∧
    (start []).turns.head? ≠ some true ∧ ({ start [] with turns := [false] }).turns.head? ≠ some true := by decide

theorem test_witness_InterruptsTaken :
    let s := { start [] with hart := { (start []).hart with mie := 0x888, mstatus := { (start []).hart.mstatus with mie := true } } }
    ({ s with script := [{ quiet with meip := true }] }).pendingInterrupt = some .external ∧
    ({ s with script := [{ quiet with msip := true }] }).pendingInterrupt = some .software ∧
    ({ s with script := [{ quiet with mtip := true }] }).pendingInterrupt = some .timer ∧ s.pendingInterrupt = none ∧
    s.inputs.interruptDeferred = false ∧
    ({ s with script := [{ quiet with interruptDeferred := true }] }).inputs.interruptDeferred = true := by decide

/-- The checks of a fetch at an address pass. -/
def fetches (s : State) (a : Word) : Prop :=
  ¬ (pmpAllows s.plat s.hart s.hart.priv .execute a = false ∨ s.plat.busFault .fetch a = true)

/-- The code that a fetch at the pc sees. -/
def seen (s : State) : Code := Code.ofParcels (s.fetchParcel 0 s.hart.pc) (s.fetchParcel 2 (s.hart.pc + 2))

theorem test_witness_FetchAndDecodeTraps :
    pmpAllows (inUser (start [])).plat (inUser (start [])).hart .user .execute 0x20000000 = false ∧
    (start []).plat.busFault .fetch 0x20082000 = true ∧
    (let s := ((start []).setPc 0x20081ffe).withFetchWord 32 0x00c58533
     fetches s s.hart.pc ∧ isLong (s.fetchParcel 0 s.hart.pc) = true ∧ s.hart.pc + 2 ≠ 0 ∧
       s.plat.busFault .fetch (s.hart.pc + 2) = true) ∧
    (let s := ({ start [] with plat := everywhere .memory }.setPc 0xfffffffe).withFetchWord 32 0x00c58533
     fetches s s.hart.pc ∧ isLong (s.fetchParcel 0 s.hart.pc) = true ∧ s.hart.pc + 2 = 0) := by unfold fetches; decide

/-- An illegal code and a legal one of each length, from memory and from a device, and a branch with a stored byte. -/
theorem test_witness_FetchAndDecodeTraps_passes :
    (∀ w ∈ [0xffffffff, 0x0000, 0x00c58533, 0x9d75],
      let s := (start []).withFetchWord 32 w
      fetches s s.hart.pc ∧ s.hart.pc + 2 ≠ 0 ∧ fetches s (s.hart.pc + 2) ∧ s.takenInterrupt = none) ∧
    decode (seen ((start []).withFetchWord 32 0x00c58533)) = .ok (.add 10 11 12) ∧
    decode (seen ((start []).withFetchWord 32 0x9d75)) = .ok (.cNot 2) ∧
    (let s := { start [] with script := [{ quiet with deviceCode := 0x00c58533 }] }.setPc 0x40000000
     fetches s s.hart.pc ∧ fetches s (s.hart.pc + 2) ∧ decode (seen s) = .ok (.add 10 11 12) ∧
       s.runsStaleBranch (.add 10 11 12) = false) ∧
    (let s := ((start []).withFetchWord 32 0xfeb51ce3).storeByte false 0x20000003 0xfe
     fetches s s.hart.pc ∧ decode (seen s) = .ok (.bne 10 11 (-8)) ∧ s.runsStaleBranch (.bne 10 11 (-8)) = true) := by
  unfold fetches; decide
theorem test_witness_FetchAndDecodeTraps_rejected : Rejected (seen ((start []).withFetchWord 32 0xffffffff)) ∧
    Rejected (seen ((start []).withFetchWord 32 0)) := ⟨⟨_, rfl⟩, ⟨_, rfl⟩⟩

theorem test_witness_FetchSeesHeldValues : (start []).plat.isDevice 0x20000000 = false ∧
    (start []).plat.isDevice 0x40000000 = true ∧ (start []).hart.heldValues 0x20000000 = [] ∧
    ((start []).storeByte false 0x20000000 1).hart.heldValues 0x20000000 = [0] := by decide

theorem test_witness_StaleBranchStops :
    decode (.word 0x00b50863) = .ok (.beq 10 11 16) ∧ (Instr.beq 10 11 16).isConditionalBranch = true ∧
    3 < (Instr.beq 10 11 16).length ∧
    ((start []).storeByte false 0x20000003 1).hart.heldValues ((start []).hart.pc + BitVec.ofNat 32 3).toNat ≠ [] ∧
    decode (.half 0xc101) = .ok (.cBeqz 2 0) ∧ (Instr.cBeqz 2 0).isConditionalBranch = true := by decide

theorem test_witness_ZeroRegister : ∃ t, exec (.addi 0 11 5) data = .next t := ⟨_, rfl⟩

/-- The first and the last byte, halfword and word of SRAM. -/
theorem test_witness_Loads : data.canLoad 1 0x20000000 ∧ data.canLoad 1 0x20081fff ∧ data.canLoad 2 0x20000000 ∧
    data.canLoad 2 0x20081ffe ∧ data.canLoad 4 0x20000000 ∧ data.canLoad 4 0x20081ffc := by unfold State.canLoad State.permits; decide
theorem test_witness_Stores32 : data.canStore 1 0x20000000 ∧ data.canStore 1 0x20081fff ∧ data.canStore 2 0x20000000 ∧
    data.canStore 2 0x20081ffe ∧ data.canStore 4 0x20000000 ∧ data.canStore 4 0x20081ffc := by unfold State.canStore State.permits; decide

/-- Loads and stores that reach a device: its first and its last word. -/
theorem test_witness_Loads_device : data.canLoad 4 0x40000000 ∧ data.canStore 1 0xdfffffff ∧ data.plat.isDevice 0x40000000 = true ∧
    data.plat.isDevice 0xdfffffff = true := by unfold State.canLoad State.canStore State.permits; decide
theorem test_witness_CompressedLoads : data.canLoad 1 (data.reg (8#5 + (3#3).setWidth 5) + (3#2).setWidth 32) ∧
    data.canLoad 2 (data.reg (8#5 + (0#3).setWidth 5) + (2#2).setWidth 32) ∧
    data.canLoad 4 (data.reg (8#5 + (0#3).setWidth 5) + (124#7).setWidth 32) ∧ data.canLoad 4 (data.reg 2 + (252#8).setWidth 32) := by
  unfold State.canLoad State.permits; decide
theorem test_witness_CompressedStores : data.canStore 1 (data.reg (8#5 + (3#3).setWidth 5) + (3#2).setWidth 32) ∧
    data.canStore 2 (data.reg (8#5 + (0#3).setWidth 5) + (2#2).setWidth 32) ∧
    data.canStore 4 (data.reg (8#5 + (0#3).setWidth 5) + (124#7).setWidth 32) ∧
    data.canStore 4 (data.reg 2 + (252#8).setWidth 32) := by unfold State.canStore State.permits; decide

/-- One address for each clause: a register with the immediates 1 and 2, and misaligned base registers. -/
theorem test_witness_MisalignedAccessesTrap :
    (data.reg 11 + (1#12).signExtend 32).toNat % 2 ≠ 0 ∧ (data.reg 11 + (2#12).signExtend 32).toNat % 4 ≠ 0 ∧
    (data.reg (8#5 + (0#3).setWidth 5) + (1#2).setWidth 32).toNat % 2 ≠ 0 ∧
    (data.reg (8#5 + (0#3).setWidth 5) + (2#7).setWidth 32).toNat % 4 ≠ 0 ∧ (data.reg 2 + (2#8).setWidth 32).toNat % 4 ≠ 0 ∧
    ((start [(2, 0x20002002)]).reg 2).toNat % 4 ≠ 0 ∧ ((start [(11, 0x20001003)]).reg 11).toNat % 4 ≠ 0 := by decide

/-- M-mode with MPRV set and MPP at U, as for a load on behalf of U-mode. -/
def asUser (s : State) : State :=
  { s with hart := { s.hart with mstatus := { s.hart.mstatus with mprv := true, mpp := .user } } }

/-- The level that a load of s is checked at. -/
def level (s : State) : Priv := if s.hart.mstatus.mprv = true then s.hart.mstatus.mpp else s.hart.priv

/-- U-mode, and M-mode with MPRV, without a PMP entry; the address after SRAM, a store to ROM, and an AMO to XIP. -/
theorem test_witness_AccessFaultsTrap :
    (∀ s ∈ [inUser data, asUser data], ∀ kind ∈ [PmpKind.read, .write, .readWrite],
      pmpAllows s.plat s.hart (level s) kind 0x20001000 = false) ∧
    data.plat.busFault .load 0x20082000 = true ∧ data.plat.busFault .store 0x7ffc = true ∧
    data.plat.busFault .load 0x7ffc = false ∧ data.plat.busFault .exclusive 0x20082000 = true ∧
    data.plat.supportsExclusive 0x10000000 = false ∧ data.plat.busFault .exclusive 0x10000000 = false := by decide

/-- A push whose second access reaches a device just below memory, and a pop whose first one does; the first and the last custom
register. -/
theorem test_witness_UnspecifiedUnitsRefused :
    let plat := { defaultPlatform with regions := [
      { base := 0x20000000, size := 0x1000, kind := .memory, exclusive := true, faults := [] },
      { base := 0x1ffff000, size := 0x1000, kind := .device, exclusive := false, faults := [] }] }
    let s := { start [(2, 0x20000004)] with plat := plat }
    let t := { start [(2, 0x1fffff00)] with plat := plat }
    1 < (registerList 5).length ∧ s.canPush 1 ∧ s.canStore 4 (slot (s.reg 2) 1) ∧ s.plat.isDevice (slot (s.reg 2) 1) = true ∧
    t.canPop (t.reg 2 + stackAdjust 5 0) 0 ∧ t.canLoad 4 (slot (t.reg 2 + stackAdjust 5 0) 0) ∧
    t.plat.isDevice (slot (t.reg 2 + stackAdjust 5 0) 0) = true ∧
    data.plat.csrAbsent.contains 0xbc0 = false ∧ data.plat.csrAbsent.contains 0xbff = false ∧ data.hart.priv = .machine := by
  unfold State.canPush State.canPop State.canStore State.canLoad State.permits; decide

theorem test_witness_MixedWidthsAgree : (0xfffffffc#32).toNat % 4 = 0 ∧ data.plat.isDevice 0xfffffffc = false := by decide

/-- In SRAM, and at a device that supports exclusive access. -/
theorem test_witness_AtomicUpdates : data.canUpdate (data.reg 11) ∧
    ({ data with plat := everywhere .device }).canUpdate (data.reg 11) := by unfold State.canUpdate State.permits; decide

/-- An address that supports exclusive access, one that does not, and a device. -/
theorem test_witness_LoadReserved : data.permits .read 0x20001000 ∧ data.plat.busFault .exclusive 0x20001000 = false ∧
    data.plat.supportsExclusive 0x20001000 = true ∧
    data.permits .read 0x10000000 ∧ data.plat.busFault .exclusive 0x10000000 = false ∧
    data.plat.supportsExclusive 0x10000000 = false ∧
    data.permits .read 0x40000000 ∧ data.plat.busFault .exclusive 0x40000000 = false ∧
    data.plat.isDevice 0x40000000 = true := by unfold State.permits; decide

theorem test_witness_StoreConditional :
    let s := data.reserve 0x20001000
    (s.reg 11).toNat % 4 = 0 ∧ s.permits .write (s.reg 11) ∧ s.plat.busFault .exclusive (s.reg 11) = false ∧
    data.hart.localMonitor = false ∧ s.hart.localMonitor = true ∧
    s.hart.reservation = some 0x20001000 ∧ s.plat.granule 0x20001000 = s.plat.granule (s.reg 11) ∧
    s.plat.supportsExclusive (s.reg 11) = true ∧ s.inputs.exclusiveRefused = false ∧
    ({ s with script := [{ quiet with exclusiveRefused := true }] }).inputs.exclusiveRefused = true ∧
    (data.setLocalMonitor true).hart.reservedAt data.plat (data.reg 11) = false ∧
    s.plat.supportsExclusive 0x40000000 = false ∧ s.plat.busFault .exclusive 0x40000000 = false := by
  unfold State.permits; decide

theorem test_witness_AmoBreaksReservation :
    ∃ t, exec (.amoaddW 10 11 12 false false) (data.reserve 0x20001000) = .next t ∧ (t.reg 11).toNat % 4 = 0 ∧
      t.permits .write (t.reg 11) ∧ t.plat.busFault .exclusive (t.reg 11) = false :=
  ⟨Result.state (exec (.amoaddW 10 11 12 false false) (data.reserve 0x20001000)), rfl, by unfold State.permits; decide⟩

/-- lr.w sets it, sc.w and a trap clear it. -/
theorem test_witness_LocalMonitorWriters :
    (∃ t, exec (.lrW 10 11 false false) data = .next t ∧ t.hart.localMonitor ≠ data.hart.localMonitor) ∧
    (∃ t, exec (.scW 10 11 12 false false) (data.reserve 0x20001000) = .next t ∧
      t.hart.localMonitor ≠ (data.reserve 0x20001000).hart.localMonitor) ∧
    (∃ t, exec .ecall (data.setLocalMonitor true) = .next t ∧
      t.hart.localMonitor ≠ (data.setLocalMonitor true).hart.localMonitor) :=
  ⟨⟨Result.state (exec (.lrW 10 11 false false) data), rfl, by decide⟩,
    ⟨Result.state (exec (.scW 10 11 12 false false) (data.reserve 0x20001000)), rfl, by decide⟩,
    ⟨Result.state (exec .ecall (data.setLocalMonitor true)), rfl, by decide⟩⟩

theorem test_witness_PushStoresRegisters : data.canPush (registerList 15).length := by
  unfold State.canPush State.canStore State.permits; decide

/-- The second store of a push below the start of SRAM, and the first load of a pop above its end. -/
theorem test_witness_ZcmpStopsAtFault :
    let s := start [(2, 0x20000004)]
    let t := start [(2, 0x20081ff4)]
    1 < (registerList 5).length ∧ s.canPush 1 ∧ t.canPop (t.reg 2 + stackAdjust 5 0) 0 ∧
    s.storeVerdict 4 (slot (s.reg 2) 1) = .trap .storeFault ∧
    t.loadVerdict 4 (slot (t.reg 2 + stackAdjust 5 0) 0) = .trap .loadFault := by
  unfold State.canPush State.canPop State.canStore State.canLoad State.permits; decide

theorem test_witness_PopsRestoreRegisters : data.canPop (data.reg 2 + stackAdjust 15 3) (registerList 15).length := by
  unfold State.canPop State.canLoad State.permits; decide

theorem test_witness_ZcmpMoves : (0#3) ≠ (7#3) := by decide

theorem test_witness_FencesAndWait : data.hart.priv = .machine ∧ (inUser data).hart.mstatus.tw = false := by decide

/-- Registers of M-mode at both ends of the numbered ones, and the counters in U-mode. -/
theorem test_witness_CsrInstructions :
    data.mayAccess 0x340 .mscratch ∧ (0x340#12).extractLsb' 10 2 ≠ 3#2 ∧ data.mayAccess 0x3a0 (.pmpcfg 0) ∧
    data.mayAccess 0x3bf (.pmpaddr 15) ∧ data.mayAccess 0x33f .hpm ∧ data.mayAccess 0xf14 .mhartid ∧
    (let s := inUser { data with hart := { data.hart with mcounteren := 5 } }
     s.mayAccess 0xc00 .cycle ∧ s.mayAccess 0xc82 .instreth) := by
  unfold State.mayAccess
  exact ⟨by decide, by decide, by decide, by decide, by decide, by decide, by decide, by decide⟩

/-- CY set and clear; two numbers; entries of the PMP open, locked, below a locked TOR entry, and not writable; written
configurations legal and reserved. -/
theorem test_witness_CsrWriteThenRead :
    data.hart.mcountinhibit.getLsbD 0 = true ∧
    ({ data.hart with mcountinhibit := 0 }).mcountinhibit.getLsbD 0 = false ∧ data.hart.id ≠ data.other.id ∧
    (let s := { data with hart := { data.hart with pmpcfg := data.hart.pmpcfg.set 1 0x89 } }
     (pmpCfgOf s.plat s.hart 0).getLsbD 7 = false ∧ (pmpCfgOf s.plat s.hart 1).getLsbD 7 = true ∧
     (pmpCfgOf s.plat s.hart 1).extractLsb' 3 2 = 1#2 ∧ ((csrRead (.pmpcfg 0) s).extractLsb' 8 8).getLsbD 7 = true ∧
     ((csrRead (.pmpcfg 0) s).extractLsb' 0 8).getLsbD 7 = false ∧ s.plat.pmpCount ≤ 8 ∧ 7 < s.plat.pmpCount ∧
     (pmpCfgOf s.plat s.hart 7).getLsbD 7 = false) ∧
    (0x1f#8).getLsbD 0 = true ∧ (0x1f#8).extractLsb' 3 2 ≠ 2#2 ∧ (0x02#8).getLsbD 1 = true ∧ (0x02#8).getLsbD 0 = false ∧
    (0x10#8).extractLsb' 3 2 = 2#2 ∧ 0 < data.plat.pmpGrain := by decide

theorem test_witness_CsrAccessDenied : (0xf11#12).extractLsb' 10 2 = 3#2 ∧ (0xc00#12).extractLsb' 10 2 = 3#2 ∧
    (inUser data).hart.priv = .user ∧ (0x340#12).extractLsb' 8 2 ≠ 0#2 ∧ (inUser data).hart.mcounteren.getLsbD 0 = false ∧
    (inUser data).hart.mcounteren.getLsbD 1 = false ∧ (inUser data).hart.mcounteren.getLsbD 2 = false := by decide

/-- The neighbours of each range, medeleg, mideleg, dcsr and a CSR of U-mode. -/
theorem test_witness_UnnamedCsrsIllegal :
    ∀ a ∈ [0x302, 0x303, 0x7b0, 0xb20, 0xb81, 0xba0, 0x322, 0x39f, 0x3a4, 0x3af, 0x3c0, 0xbbf, 0xc03, 0x000, 0xfff],
      a ∉ [0x300, 0x310, 0x301, 0x304, 0x344, 0x305, 0x340, 0x341, 0x342, 0x343, 0x306, 0x320, 0xb00, 0xb80, 0xb02, 0xb82,
        0xc00, 0xc80, 0xc02, 0xc82, 0xc01, 0xc81, 0xf11, 0xf12, 0xf13, 0xf14, 0xf15, 0x7a0, 0x7a1, 0x7a2, 0x7a4] ∧
      ¬ (0xb03 ≤ a ∧ a ≤ 0xb1f) ∧ ¬ (0xb83 ≤ a ∧ a ≤ 0xb9f) ∧ ¬ (0x323 ≤ a ∧ a ≤ 0x33f) ∧ ¬ (0x3a0 ≤ a ∧ a ≤ 0x3a3) ∧
      ¬ (0x3b0 ≤ a ∧ a ≤ 0x3bf) ∧ ¬ (0xbc0 ≤ a ∧ a ≤ 0xbff) ∧ (BitVec.ofNat 12 a).toNat = a := by decide

theorem test_witness_PerformanceCountersReadZero : data.hart.priv = .machine ∧
    ∀ a ∈ [0xb03, 0xb1f, 0xb83, 0xb9f, 0x323, 0x33f], data.plat.csrAbsent.contains a = false := by decide

theorem test_witness_MstatusFields : (0x1800#32).extractLsb' 11 2 = 3#2 ∧ (0x0800#32).extractLsb' 11 2 = 1#2 ∧
    (0x1000#32).extractLsb' 11 2 = 2#2 ∧ (0#32).extractLsb' 11 2 = 0#2 := by decide

theorem test_witness_SystemInstructionsTrap :
    data.hart.priv = .machine ∧ (inUser data).hart.priv = .user ∧ data.plat.debugAttached = false ∧
    data.hart.dcsrEbreakM = false ∧ (inUser data).hart.dcsrEbreakU = false ∧
    (let s := { data with plat := { defaultPlatform with debugAttached := true }, hart := { data.hart with dcsrEbreakM := true } }
     s.plat.debugAttached = true ∧ s.hart.priv = .machine ∧ s.hart.dcsrEbreakM = true) ∧
    (let s := inUser { data with hart := { data.hart with mstatus := { data.hart.mstatus with tw := true } } }
     s.hart.priv = .user ∧ s.hart.mstatus.tw = true) := by decide

theorem test_witness_MretReturns : data.hart.priv = .machine ∧ (inUser data).hart.priv = .user := by decide

theorem test_witness_PrivilegeTransitions :
    (∃ t, exec .mret { data with hart := { data.hart with mstatus := { data.hart.mstatus with mpp := .user } } } = .next t ∧
      t.hart.priv ≠ data.hart.priv) ∧
    (∃ t, exec .ecall (inUser data) = .next t ∧ t.hart.priv ≠ (inUser data).hart.priv) :=
  ⟨⟨Result.state (exec .mret { data with hart := { data.hart with mstatus := { data.hart.mstatus with mpp := .user } } }), rfl,
    by decide⟩, ⟨Result.state (exec .ecall (inUser data)), rfl, by decide⟩⟩

/-- A step whose mret goes to U-mode, and one in U-mode whose fetch is denied. -/
theorem test_witness_PrivilegeTransitions_step :
    (let s := (start []).withFetchWord 32 0x30200073
     let m := { s with hart := { s.hart with mstatus := { s.hart.mstatus with mpp := .user } } }
     ∃ t, step m = .next t ∧ t.hart.priv ≠ m.hart.priv ∧ m.takenInterrupt = none ∧ m.turns.head? ≠ some true) ∧
    (∃ t, step (inUser (start [])) = .next t ∧ t.hart.priv ≠ (inUser (start [])).hart.priv) ∧
    (let s := { inUser (start []) with script := [{ quiet with meip := true }], turns := [true] }
     let u := { s with hart := { s.hart with mie := 0x800 } }
     u.takenInterrupt = some .external ∧ ∃ t, step u = .next t ∧ t.other.priv ≠ u.hart.priv) :=
  ⟨⟨_, rfl, by decide, by decide, by decide⟩, ⟨_, rfl, by decide⟩, by decide, ⟨_, rfl, by decide⟩⟩

theorem test_witness_UserModeKeepsControl :
    ∃ t, exec (.sw 11 12 0) (userFree data) = .next t ∧ (userFree data).hart.priv = .user ∧ t.hart.priv = .user :=
  ⟨Result.state (exec (.sw 11 12 0) (userFree data)), rfl, by decide⟩

theorem test_witness_UserStoresProtected :
    ∃ t, exec (.sw 11 12 0) (userFree data) = .next t ∧ (userFree data).hart.priv = .user ∧
      (userFree data).hart.mstatus.mprv = false ∧ t.mem.byteAt 0x20001000 ≠ (userFree data).mem.byteAt 0x20001000 :=
  ⟨Result.state (exec (.sw 11 12 0) (userFree data)), rfl, by decide⟩

/-- No entry on; one entry that is on and decides for U-mode; a locked one that denies M-mode. -/
theorem test_witness_UserStoresProtected_pmp :
    let locked := { data.hart with pmpcfg := data.hart.pmpcfg.set 0 0x99, pmpaddr := data.hart.pmpaddr.set 0 0xffffffff }
    (∀ n : Fin 16, (pmpCfgOf data.plat data.hart n).extractLsb' 3 2 = 0#2) ∧
    pmpAllows data.plat (userFree data).hart .user .write 0x20001000 = true ∧
    pmpAllows data.plat locked .machine .write 0x20001000 = false ∧
    PmpEntry.matches data.plat.pmpGrain ⟨pmpCfgOf data.plat locked 0, pmpAddrOf data.plat locked 0, pmpLowOf data.plat locked 0⟩
      0x20001000 = true := by decide

/-- NAPOT registers: the smallest region of grain 3, one of 64 bytes, and all of the address space; the other modes; entries that
software can write, that the platform fixes, and that are absent. -/
theorem test_witness_UserStoresProtected_regions :
    (∀ e ∈ [(2, 0x08000400#32), (3, 0x08000407#32), (32, 0xffffffff#32)],
      e.1 ≤ 32 ∧ (∀ j, j < e.1 → j + 1 < 3 ∨ e.2.getLsbD j = true) ∧ (e.1 < 32 → 3 ≤ e.1 + 1 ∧ e.2.getLsbD e.1 = false)) ∧
    (0x19#8).extractLsb' 3 2 = 3#2 ∧ (0x11#8).extractLsb' 3 2 = 2#2 ∧ (0x09#8).extractLsb' 3 2 = 1#2 ∧
    (0x01#8).extractLsb' 3 2 = 0#2 ∧
    (let plat := { defaultPlatform with pmpFixed := [{ cfg := 0x9f, addr := 0 }] }
     7 < plat.pmpCount ∧ plat.pmpCount ≤ 8 ∧ plat.pmpFixed[8 - plat.pmpCount]? = some { cfg := 0x9f, addr := 0 } ∧
     plat.pmpFixed[15 - plat.pmpCount]? = none) := by decide

theorem test_witness_OtherHartKeeps : ∃ t, exec (.cmPush 15 0) data = .next t := ⟨_, rfl⟩

theorem test_witness_WritesAreNoticed :
    ∃ t, exec (.sw 11 12 0) data = .next t ∧ t.mem.byteAt 0x20001003 ≠ data.mem.byteAt 0x20001003 :=
  ⟨Result.state (exec (.sw 11 12 0) data), rfl, by decide⟩

theorem test_witness_ResetState : (0xffffffff : Nat) < 2 ^ 32 := by decide

theorem test_witness_ResetHasInvariant : defaultResetPc.getLsbD 0 = false ∧ (0xfffffffe#32).getLsbD 0 = false ∧
    (0xfffffffd#32).getLsbD 1 = false := by decide

theorem test_witness_StepKeepsInvariant :
    (data.withFetchWord 32 0x00c5a023).Inv ∧ ∃ t, step (data.withFetchWord 32 0x00c5a023) = .next t :=
  ⟨by unfold State.Inv Hart.Inv; decide, ⟨_, rfl⟩⟩

end Sys2Proof.Tests
end

section
/-!
PROOF. A CSR instruction at an address that 10 R46 to R65 do not name raises an illegal-instruction exception (10 R62, R66). The model
finds the register of an address with `csrAt`, the spec's map is `Csr.addresses`; what `csrAt` finds, the map lists, and the
registers' addresses are those that the statement excludes.
-/

namespace Sys2Proof.Machine

/-- Every exception is taken at the base of mtvec, and changes nothing but the hart's trap fields (60 R450). -/
theorem raise_raises (c : Cause) (s : State) : Raises (raise c s) s c.code := by
  refine ⟨enterTrap (.exception c) s, rfl, ?_, rfl, rfl, rfl, rfl, rfl, rfl, rfl⟩
  simp [Hart.trapped, Hart.sameRegs, Trap.mcause, Hart.trapTarget, Hart.trapBase]

theorem inRange_iff (a low high : CsrAddr) :
    inRange a low high = true ↔ low.toNat ≤ a.toNat ∧ a.toNat ≤ high.toNat := by
  simp [inRange, BitVec.le_def]

/-- The register that the model finds at an address is one to which the spec gives that address (10 R46 to R65). -/
theorem csrAt_mem_addresses {a : CsrAddr} {c : Csr} (h : csrAt a = some c) : a.toNat ∈ c.addresses := by
  unfold csrAt at h
  -- mstatus to timeh: one address each
  iterate 22
    obtain ⟨rfl, h⟩ | ⟨-, h⟩ := ite_eq_iff.mp h
    · cases h; decide
  -- the event counters and their registers, then pmpcfg0 to pmpcfg3 and pmpaddr0 to pmpaddr15
  obtain ⟨ha, h⟩ | ⟨-, h⟩ := ite_eq_iff.mp h
  · cases h
    simp only [Bool.or_eq_true, inRange_iff, BitVec.reduceToNat] at ha
    simp only [Csr.addresses, List.mem_append, List.mem_range'_1]
    omega
  obtain ⟨ha, h⟩ | ⟨-, h⟩ := ite_eq_iff.mp h
  · cases h
    simp only [inRange_iff, BitVec.reduceToNat] at ha
    simp only [Csr.addresses, List.mem_singleton, BitVec.val_toFin, BitVec.extractLsb'_toNat, Nat.shiftRight_zero]
    omega
  obtain ⟨ha, h⟩ | ⟨-, h⟩ := ite_eq_iff.mp h
  · cases h
    simp only [inRange_iff, BitVec.reduceToNat] at ha
    simp only [Csr.addresses, List.mem_singleton, BitVec.val_toFin, BitVec.extractLsb'_toNat, Nat.shiftRight_zero]
    omega
  -- mvendorid to mconfigptr: one address each
  iterate 5
    obtain ⟨rfl, h⟩ | ⟨-, h⟩ := ite_eq_iff.mp h
    · cases h; decide
  -- the four trigger registers, then the custom range
  obtain ⟨ha, h⟩ | ⟨-, h⟩ := ite_eq_iff.mp h
  · cases h
    simp only [Bool.or_eq_true, decide_eq_true_eq] at ha
    obtain ((rfl | rfl) | rfl) | rfl := ha <;> decide
  obtain ⟨ha, h⟩ | ⟨-, h⟩ := ite_eq_iff.mp h
  · cases h
    simp only [inRange_iff, BitVec.reduceToNat] at ha
    simp only [Csr.addresses, List.mem_range'_1]
    omega
  · cases h

theorem csrVerdict_of_csrAt_none {a : CsrAddr} (h : csrAt a = none) (writes : Bool) (s : State) :
    csrVerdict a writes s = .illegal := by
  simp [csrVerdict, csrOf, h]

/-- A CSR instruction whose checks fail raises cause 2 (49 R405 (2)). -/
theorem csrInstr_raises_of_illegal {a : CsrAddr} {write : Option (Word → Word)} {s : State}
    (h : csrVerdict a write.isSome s = .illegal) (rd : RegIdx) : Raises (csrInstr a rd write s) s 2 := by
  unfold csrInstr
  rw [h]
  exact raise_raises .illegal s

/-- Settles O46: an address with a register is one of the excluded ones, by cases on the register. -/
theorem unnamedCsrsIllegal : Obligations.UnnamedCsrsIllegal := by
  intro s rd rs1 a uimm hlist hcounter hcounterh hevent hpmpcfg hpmpaddr hcustom
  have hnone : csrAt a = none := by
    refine Option.eq_none_iff_forall_ne_some.mpr fun c hc => ?_
    have hmem := csrAt_mem_addresses hc
    cases c with
    | hpm => simp only [Csr.addresses, List.mem_append, List.mem_range'_1] at hmem; omega
    | pmpcfg k => simp only [Csr.addresses, List.mem_singleton] at hmem; omega
    | pmpaddr n => simp only [Csr.addresses, List.mem_singleton] at hmem; omega
    | custom => simp only [Csr.addresses, List.mem_range'_1] at hmem; omega
    | _ => exact hlist ((by decide : Csr.addresses _ ⊆ _) hmem)
  have hraises (write : Option (Word → Word)) : Raises (csrInstr a rd write s) s 2 :=
    csrInstr_raises_of_illegal (csrVerdict_of_csrAt_none hnone _ s) rd
  exact ⟨hraises _, hraises _, hraises _, hraises _, hraises _, hraises _⟩

end Sys2Proof.Machine
end

section
/-!
PROOF. A misaligned access raises cause 4 or 6 and does nothing else (20 R88 to R90). Alignment is the first check of every access
(`State.verdict`), and a failed check is all that a guarded operation does. Each operation on memory is such a one, so one lemma for
each says when it raises. A push or pop makes at least one access, a multiple of 4 away from sp, so that a misaligned sp makes its
first access misaligned.
-/

namespace Sys2Proof.Machine

/-! ### Alignment is the first check -/

theorem State.verdict_of_misaligned {n : Nat} {a : Word} (h : a.toNat % n ≠ 0) (s : State) (k : Access) (kind : PmpKind)
    (m d : Cause) : s.verdict k kind n m d a = .trap m := if_pos h

theorem State.amoVerdict_of_misaligned {a : Word} (h : a.toNat % 4 ≠ 0) (s : State) :
    s.amoVerdict a = .trap .storeMisaligned := by
  unfold State.amoVerdict State.exclusiveVerdict
  rw [State.verdict_of_misaligned h]

/-! ### An operation whose check fails raises, and its body does not run -/

theorem guarded_raises {v : Verdict} {c : Cause} (h : v = .trap c) (s : State) (body : Result) :
    Raises (guarded v s body) s c.code := by
  rw [h]
  exact raise_raises c s

section
variable {a : Word} (s : State)

theorem loadHalfSigned_raises_of_misaligned (h : a.toNat % 2 ≠ 0) (len : Word) (rd : RegIdx) :
    Raises (loadHalfSigned len rd a s) s 4 := guarded_raises (State.verdict_of_misaligned h ..) s _

theorem loadHalfUnsigned_raises_of_misaligned (h : a.toNat % 2 ≠ 0) (len : Word) (rd : RegIdx) :
    Raises (loadHalfUnsigned len rd a s) s 4 := guarded_raises (State.verdict_of_misaligned h ..) s _

theorem loadWord_raises_of_misaligned (h : a.toNat % 4 ≠ 0) (len : Word) (rd : RegIdx) :
    Raises (loadWord len rd a s) s 4 := guarded_raises (State.verdict_of_misaligned h ..) s _

theorem storeHalf_raises_of_misaligned (h : a.toNat % 2 ≠ 0) (len v : Word) :
    Raises (storeHalf len a v s) s 6 := guarded_raises (State.verdict_of_misaligned h ..) s _

theorem storeWord_raises_of_misaligned (h : a.toNat % 4 ≠ 0) (len v : Word) :
    Raises (storeWord len a v s) s 6 := guarded_raises (State.verdict_of_misaligned h ..) s _

theorem loadReserved_raises_of_misaligned (h : a.toNat % 4 ≠ 0) (rd : RegIdx) :
    Raises (loadReserved rd a s) s 4 := guarded_raises (State.verdict_of_misaligned h ..) s _

theorem storeConditional_raises_of_misaligned (h : a.toNat % 4 ≠ 0) (rd : RegIdx) (v : Word) :
    Raises (storeConditional rd a v s) s 6 := guarded_raises (State.verdict_of_misaligned h ..) s _

theorem atomicUpdate_raises_of_misaligned (h : a.toNat % 4 ≠ 0) (f : Word → Word → Word) (rd : RegIdx) (v : Word) :
    Raises (atomicUpdate f rd a v s) s 6 := guarded_raises (State.amoVerdict_of_misaligned h s) s _

/-! ### Pushes and pops: the first access decides -/

theorem sub_four_misaligned (h : a.toNat % 4 ≠ 0) : (a - 4).toNat % 4 ≠ 0 := by bv_omega

theorem pushAll_raises_of_misaligned (h : a.toNat % 4 ≠ 0) {regs : List RegIdx} (hregs : regs ≠ []) (done : State → Result) :
    Raises (pushAll regs a s done) s 6 := by
  obtain ⟨r, rest, rfl⟩ := List.exists_cons_of_ne_nil hregs
  exact guarded_raises (State.verdict_of_misaligned (sub_four_misaligned h) ..) s _

theorem popGuarded_raises_of_misaligned (h : a.toNat % 4 ≠ 0) {regs : List RegIdx} (hregs : regs ≠ []) (body : Result) :
    Raises (popGuarded regs a s body) s 4 := by
  obtain ⟨r, rest, rfl⟩ := List.exists_cons_of_ne_nil hregs
  exact guarded_raises (State.verdict_of_misaligned (sub_four_misaligned h) ..) s _

end

/-- Every list has ra (30 R136). -/
theorem registerList_reverse_ne_nil (rlist : BitVec 4) : (registerList rlist).reverse ≠ [] := by
  simp [registerList]

theorem stackAdjust_aligned (rlist : BitVec 4) (spimm : BitVec 2) : (stackAdjust rlist spimm).toNat % 4 = 0 := by
  revert rlist spimm
  decide

theorem add_stackAdjust_misaligned {a : Word} (h : a.toNat % 4 ≠ 0) (rlist : BitVec 4) (spimm : BitVec 2) :
    (a + stackAdjust rlist spimm).toNat % 4 ≠ 0 := by
  have hadj := stackAdjust_aligned rlist spimm
  rw [BitVec.toNat_add]
  omega

theorem execCmPush_raises_of_misaligned {s : State} (h : (s.reg sp).toNat % 4 ≠ 0) (rlist : BitVec 4) (spimm : BitVec 2) :
    Raises (execCmPush rlist spimm s) s 6 :=
  pushAll_raises_of_misaligned s h (registerList_reverse_ne_nil rlist) _

theorem popThen_raises_of_misaligned {s : State} (h : (s.reg sp).toNat % 4 ≠ 0) (rlist : BitVec 4) (spimm : BitVec 2)
    (done : State → Result) : Raises (popThen rlist spimm s done) s 4 :=
  popGuarded_raises_of_misaligned s (add_stackAdjust_misaligned h rlist spimm) (registerList_reverse_ne_nil rlist) _

/-! ### The obligation -/

/-- The register of a three-bit field, as the statements write it (30 R125). -/
theorem cReg_eq_add (n : CReg) : cReg n = 8#5 + n.setWidth 5 := by
  revert n
  decide

/-- Settles O22: each instruction is one of the operations above at its address. -/
theorem misalignedAccessesTrap : Obligations.MisalignedAccessesTrap := by
  intro s rd rs1 rs2 imm cd c1 c2 word stack near aq rl rlist spimm a cw cn p
  have hcw : cw = s.reg (cReg c1) + zeroExtend word := by rw [cReg_eq_add]; rfl
  have hcn : cn = s.reg (cReg c1) + zeroExtend near := by rw [cReg_eq_add]; rfl
  refine ⟨fun h => ?half, fun h => ?word, fun h => ?compressedHalf, fun h => ?compressedWord, fun h => ?stackWord,
    fun h => ?zcmp, fun h => ?exclusive⟩
  case half =>
    exact ⟨loadHalfSigned_raises_of_misaligned s h 4 rd, loadHalfUnsigned_raises_of_misaligned s h 4 rd,
      storeHalf_raises_of_misaligned s h 4 _⟩
  case word => exact ⟨loadWord_raises_of_misaligned s h 4 rd, storeWord_raises_of_misaligned s h 4 _⟩
  case compressedHalf =>
    rw [hcn] at h
    exact ⟨loadHalfSigned_raises_of_misaligned s h 2 _, loadHalfUnsigned_raises_of_misaligned s h 2 _,
      storeHalf_raises_of_misaligned s h 2 _⟩
  case compressedWord =>
    rw [hcw] at h
    exact ⟨loadWord_raises_of_misaligned s h 2 _, storeWord_raises_of_misaligned s h 2 _⟩
  case stackWord => exact ⟨loadWord_raises_of_misaligned s h 2 rd, storeWord_raises_of_misaligned s h 2 _⟩
  case zcmp =>
    have hpop := popThen_raises_of_misaligned h rlist spimm
    exact ⟨execCmPush_raises_of_misaligned h rlist spimm, hpop (finish 2), hpop returnTo,
      hpop fun t => returnTo (t.setReg a0 0)⟩
  case exclusive =>
    have hamo (f : Word → Word → Word) := atomicUpdate_raises_of_misaligned s h f rd (s.reg rs2)
    exact ⟨loadReserved_raises_of_misaligned s h rd, storeConditional_raises_of_misaligned s h rd _,
      hamo (· + ·), hamo (· &&& ·), hamo (· ||| ·), hamo (· ^^^ ·), hamo fun _ v => v, hamo maxSigned, hamo maxUnsigned,
      hamo minSigned, hamo minUnsigned⟩

end Sys2Proof.Machine
end

section
/-!
PROOF. The register lists and stack adjustments of Zcmp, and the reserved lists (30 R136). The frame is read off the list's length,
branch by branch of the model's table of base sizes. For the reserved lists, each field of a 16-bit word is read back from the word
that has it; a push or pop word thereby reaches `decodeZcmp` with its own rlist, which is the only value that can make it an
instruction.
-/

namespace Sys2Proof.Machine

/-! ### Lists and stack adjustments -/

theorem savedCount_le (rlist : BitVec 4) : savedCount rlist ≤ 12 := by
  unfold savedCount
  split <;> omega

/-- ra, and the s registers of the list; no list asks for more of them than there are. -/
theorem registerList_length (rlist : BitVec 4) : (registerList rlist).length = savedCount rlist + 1 := by
  simp [registerList, savedRegs, savedCount_le]

/-- The base is the list's size in bytes, rounded up to a multiple of 16 (30 R136). -/
theorem stackAdjustBase_toNat {rlist : BitVec 4} (h : 4 ≤ rlist.toNat) :
    (stackAdjustBase rlist).toNat = (4 * (registerList rlist).length + 15) / 16 * 16 := by
  have htop : rlist = 15#4 ↔ rlist.toNat = 15 := BitVec.toNat_inj.symm
  simp only [registerList_length, savedCount, htop, stackAdjustBase]
  split_ifs <;> simp only [BitVec.reduceToNat] <;> omega

/-- The base is at most 64 and spimm adds at most 48, so that the sum does not wrap. -/
theorem stackAdjust_toNat {rlist : BitVec 4} (h : 4 ≤ rlist.toNat) (spimm : BitVec 2) :
    (stackAdjust rlist spimm).toNat = (4 * (registerList rlist).length + 15) / 16 * 16 + 16 * spimm.toNat := by
  have hbase := stackAdjustBase_toNat h
  have hlength := registerList_length rlist
  have hcount := savedCount_le rlist
  have hspimm : (16 * zeroExtend spimm).toNat = 16 * spimm.toNat := by
    simp only [zeroExtend, BitVec.toNat_mul, BitVec.toNat_setWidth, BitVec.reduceToNat]
    omega
  rw [stackAdjust, BitVec.toNat_add, hbase, hspimm]
  omega

/-! ### The fields of a 16-bit word, read back from it (30 R124) -/

/-- A field above the low part b of a word lies in the rest of it, at an index less by b's width. -/
theorem append_above {v w len k : Nat} {a : BitVec v} {b : BitVec w} {x : BitVec len}
    (h : a.extractLsb' k len = x) : (a ++ b).extractLsb' (k + w) len = x := by
  rw [BitVec.extractLsb'_append_eq_of_le (Nat.le_add_left w k), Nat.add_sub_cancel, h]

section
open BitVec (extractLsb'_append_eq_left extractLsb'_append_eq_right)

variable (f3 : BitVec 3) (b12 : BitVec 1) (f2 : BitVec 2) (r97 : BitVec 3) (b65 : BitVec 2) (r42 : BitVec 3) (q : BitVec 2)

@[simp] theorem quadrant_mkHalf : quadrant (mkHalf f3 b12 f2 r97 b65 r42 q) = q :=
  extractLsb'_append_eq_right

@[simp] theorem cReg42_mkHalf : cReg42 (mkHalf f3 b12 f2 r97 b65 r42 q) = r42 :=
  append_above extractLsb'_append_eq_right

@[simp] theorem cBits65_mkHalf : cBits65 (mkHalf f3 b12 f2 r97 b65 r42 q) = b65 :=
  append_above (append_above extractLsb'_append_eq_right)

@[simp] theorem cReg97_mkHalf : cReg97 (mkHalf f3 b12 f2 r97 b65 r42 q) = r97 :=
  append_above (append_above (append_above extractLsb'_append_eq_right))

@[simp] theorem cFunct2_mkHalf : cFunct2 (mkHalf f3 b12 f2 r97 b65 r42 q) = f2 :=
  append_above (append_above (append_above (append_above extractLsb'_append_eq_right)))

@[simp] theorem cBit12_mkHalf : cBit12 (mkHalf f3 b12 f2 r97 b65 r42 q) = b12 :=
  append_above (append_above (append_above (append_above (append_above extractLsb'_append_eq_right))))

@[simp] theorem cFunct3_mkHalf : cFunct3 (mkHalf f3 b12 f2 r97 b65 r42 q) = f3 :=
  append_above (append_above (append_above (append_above (append_above extractLsb'_append_eq_left))))

end

/-! ### Push and pop words -/

section
variable (f2 b98 : BitVec 2) (rlist : BitVec 4) (spimm : BitVec 2)

/-- The three parts of rlist lie in three fields of the word (30 R136). -/
theorem cRlist_encodeCMPP : cRlist (encodeCMPP f2 b98 rlist spimm) = rlist := by
  simp only [cRlist, encodeCMPP, cReg97_mkHalf, cBits65_mkHalf, cReg42_mkHalf, BitVec.extractLsb'_append_eq_left,
    BitVec.extractLsb'_append_eq_right]
  rw [BitVec.extractLsb'_append_extractLsb'_eq_extractLsb' (show 3 = 1 + 2 from rfl),
    BitVec.extractLsb'_append_extractLsb'_eq_extractLsb' (show 1 = 0 + 1 from rfl), BitVec.extractLsb'_eq_self]

theorem cBit12_encodeCMPP : cBit12 (encodeCMPP f2 b98 rlist spimm) = 1 := cBit12_mkHalf ..

theorem decode_encodeCMPP :
    decode (.half (encodeCMPP f2 b98 rlist spimm)) = decodeZcmp (encodeCMPP f2 b98 rlist spimm) := by
  simp [decode, decode16, decodeQuadrant2, encodeCMPP]

end

theorem isRegisterList_eq_false {rlist : BitVec 4} (h : rlist.toNat < 4) : isRegisterList rlist = false := by
  simpa [isRegisterList, BitVec.lt_def] using h

/-- With bit 12 set, each instruction of Zcmp is a push or a pop, and asks for a register list (30 R136). -/
theorem decodeZcmp_error {h : Half} (h12 : cBit12 h = 1) (hlist : isRegisterList (cRlist h) = false) :
    ∃ e, decodeZcmp h = .error e := by
  rw [decodeZcmp, h12, if_neg (by decide)]
  simp only [hlist, Bool.false_eq_true, if_false]
  split_ifs <;> exact ⟨_, rfl⟩

theorem encodeCMPP_rejected (f2 b98 : BitVec 2) {rlist : BitVec 4} (h : rlist.toNat < 4) (spimm : BitVec 2) :
    Rejected (.half (encodeCMPP f2 b98 rlist spimm)) := by
  have hlist : isRegisterList (cRlist (encodeCMPP f2 b98 rlist spimm)) = false := by
    rw [cRlist_encodeCMPP]
    exact isRegisterList_eq_false h
  rw [Rejected, decode_encodeCMPP]
  exact decodeZcmp_error (cBit12_encodeCMPP ..) hlist

/-! ### The obligation -/

/-- Settles O6: the twelve lists are read off the table; the adjustments and the reserved lists are the lemmas above. -/
theorem zcmpRegisterLists : Obligations.ZcmpRegisterLists :=
  ⟨rfl, rfl, rfl, rfl, rfl, rfl, rfl, rfl, rfl, rfl, rfl, rfl, fun _ spimm h => stackAdjust_toNat h spimm,
    fun f2 b98 _ spimm h _ => encodeCMPP_rejected f2 b98 h spimm⟩

end Sys2Proof.Machine
end

section
/-!
PROOF. Which interrupt is taken before the next instruction (60 R441 to R443). `State.raised` is the condition of R442 on one interrupt;
in its terms `State.pendingInterrupt` is a choice of the first that holds, in the order of R442, and `step` runs the instruction where the
choice is empty or put off.
-/

namespace Sys2Proof.Machine

/-! ### The bits of mip are the interrupt inputs -/

theorem csrRead_mip_external (s : State) : (csrRead .mip s).getLsbD 11 = s.inputs.meip := by
  simp only [csrRead, mipWord, BitVec.getLsbD_append]
  simp

theorem csrRead_mip_software (s : State) : (csrRead .mip s).getLsbD 3 = s.inputs.msip := by
  simp only [csrRead, mipWord, BitVec.getLsbD_append]
  simp

theorem csrRead_mip_timer (s : State) : (csrRead .mip s).getLsbD 7 = s.inputs.mtip := by
  simp only [csrRead, mipWord, BitVec.getLsbD_append]
  simp

/-! ### The interrupt that is to be taken -/

theorem Hart.interruptsEnabled_iff {h : Hart} : h.interruptsEnabled = true ↔ h.priv = .user ∨ h.mstatus.mie = true := by
  simp [Hart.interruptsEnabled]

/-- The interrupt with this code is enabled in mie and pending in mip, whose bits the codes number (60 R442). -/
abbrev State.raised (s : State) (code : Nat) : Prop :=
  s.hart.mie.getLsbD code = true ∧ (csrRead .mip s).getLsbD code = true

/-- The order of 60 R442: external (11), software (3), timer (7). -/
theorem State.pendingInterrupt_eq_ite (s : State) :
    s.pendingInterrupt =
      if ¬ (s.hart.priv = .user ∨ s.hart.mstatus.mie = true) then none
      else if s.raised 11 then some .external
      else if s.raised 3 then some .software
      else if s.raised 7 then some .timer
      else none := by
  simp only [State.raised, csrRead_mip_external, csrRead_mip_software, csrRead_mip_timer, ← Hart.interruptsEnabled_iff,
    State.pendingInterrupt, Bool.and_eq_true, Bool.not_eq_true', Bool.not_eq_true]

section
variable {s : State}

theorem State.pendingInterrupt_eq_external_iff :
    s.pendingInterrupt = some .external ↔ (s.hart.priv = .user ∨ s.hart.mstatus.mie = true) ∧ s.raised 11 := by
  rw [State.pendingInterrupt_eq_ite]
  split_ifs <;> grind

theorem State.pendingInterrupt_eq_software_iff :
    s.pendingInterrupt = some .software ↔
      (s.hart.priv = .user ∨ s.hart.mstatus.mie = true) ∧ ¬ s.raised 11 ∧ s.raised 3 := by
  rw [State.pendingInterrupt_eq_ite]
  split_ifs <;> grind

theorem State.pendingInterrupt_eq_timer_iff :
    s.pendingInterrupt = some .timer ↔
      (s.hart.priv = .user ∨ s.hart.mstatus.mie = true) ∧ ¬ s.raised 11 ∧ ¬ s.raised 3 ∧ s.raised 7 := by
  rw [State.pendingInterrupt_eq_ite]
  split_ifs <;> grind

theorem State.pendingInterrupt_eq_none_iff :
    s.pendingInterrupt = none ↔
      ¬ ((s.hart.priv = .user ∨ s.hart.mstatus.mie = true) ∧ (s.raised 11 ∨ s.raised 3 ∨ s.raised 7)) := by
  rw [State.pendingInterrupt_eq_ite]
  split_ifs <;> grind

/-! ### The step -/

theorem State.takenInterrupt_of_deferred (h : s.inputs.interruptDeferred = true) : s.takenInterrupt = none := by
  unfold State.takenInterrupt
  split
  · rfl
  · exact if_pos h

theorem State.takenInterrupt_of_not_deferred (h : s.inputs.interruptDeferred = false) :
    s.takenInterrupt = s.pendingInterrupt := by
  unfold State.takenInterrupt
  cases s.pendingInterrupt with
  | none => rfl
  | some irq => simp [h]

theorem step_of_takenInterrupt_none (h : s.takenInterrupt = none) : step s = advanced (runInstruction s) := by
  rw [step, h]

theorem step_of_takenInterrupt_some {irq : Irq} (h : s.takenInterrupt = some irq) :
    step s = .next (enterTrap (.interrupt irq) s).advance := by
  rw [step, h, advanced]

end

/-! ### The obligation -/

/-- Settles O9: the choice of the interrupt, then the step with it put off, absent and taken; entry reads cause and pc off the trap. -/
theorem interruptsTaken : Obligations.InterruptsTaken := by
  intro s
  refine ⟨State.pendingInterrupt_eq_external_iff, State.pendingInterrupt_eq_software_iff, State.pendingInterrupt_eq_timer_iff,
    State.pendingInterrupt_eq_none_iff, ?deferred, ?absent, ?taken⟩
  case deferred => exact fun hdefer => step_of_takenInterrupt_none (State.takenInterrupt_of_deferred hdefer)
  case absent =>
    exact fun hdefer hnone => step_of_takenInterrupt_none ((State.takenInterrupt_of_not_deferred hdefer).trans hnone)
  case taken =>
    intro irq hirq
    refine ⟨fun hdefer => step_of_takenInterrupt_some ((State.takenInterrupt_of_not_deferred hdefer).trans hirq), ?_, rfl⟩
    cases irq <;> rfl

end Sys2Proof.Machine
end

section
/-!
PROOF. Decoding undoes encoding (30 R122 to R130). Each field of a word is read back from the word that has it, each immediate
from the format that splits it over fields; with that the decoder's choices, which look at fields alone, are evaluated.
-/

namespace Sys2Proof.Machine

open BitVec (extractLsb'_append_eq_left extractLsb'_append_eq_right extractLsb'_append_extractLsb'_eq_extractLsb')

/-! ### The fields of a 32-bit word, read back from it (30 R122) -/

section
variable (f7 : BitVec 7) (rs2 rs1 : RegIdx) (f3 : BitVec 3) (rd : RegIdx) (op : BitVec 7)

@[simp] theorem opcode_mkWord : opcode (mkWord f7 rs2 rs1 f3 rd op) = op :=
  extractLsb'_append_eq_right

@[simp] theorem rdField_mkWord : rdField (mkWord f7 rs2 rs1 f3 rd op) = rd :=
  append_above extractLsb'_append_eq_right

@[simp] theorem funct3_mkWord : funct3 (mkWord f7 rs2 rs1 f3 rd op) = f3 :=
  append_above (append_above extractLsb'_append_eq_right)

@[simp] theorem rs1Field_mkWord : rs1Field (mkWord f7 rs2 rs1 f3 rd op) = rs1 :=
  append_above (append_above (append_above extractLsb'_append_eq_right))

@[simp] theorem rs2Field_mkWord : rs2Field (mkWord f7 rs2 rs1 f3 rd op) = rs2 :=
  append_above (append_above (append_above (append_above extractLsb'_append_eq_right)))

@[simp] theorem funct7_mkWord : funct7 (mkWord f7 rs2 rs1 f3 rd op) = f7 :=
  append_above (append_above (append_above (append_above extractLsb'_append_eq_left)))

end

/-! ### The 32-bit formats: the immediate, and the fields that the decoder looks at -/

section
variable (imm : BitVec 12) (rs2 rs1 : RegIdx) (f3 : BitVec 3) (rd : RegIdx) (op : BitVec 7)

@[simp] theorem opcode_encodeI : opcode (encodeI imm rs1 f3 rd op) = op := opcode_mkWord ..
@[simp] theorem funct3_encodeI : funct3 (encodeI imm rs1 f3 rd op) = f3 := funct3_mkWord ..
@[simp] theorem rdField_encodeI : rdField (encodeI imm rs1 f3 rd op) = rd := rdField_mkWord ..
@[simp] theorem rs1Field_encodeI : rs1Field (encodeI imm rs1 f3 rd op) = rs1 := rs1Field_mkWord ..
@[simp] theorem immI_encodeI : immI (encodeI imm rs1 f3 rd op) = imm := by
  simp (disch := rfl) only [immI, encodeI, funct7_mkWord, rs2Field_mkWord, extractLsb'_append_extractLsb'_eq_extractLsb',
    BitVec.extractLsb'_eq_self]

@[simp] theorem opcode_encodeS : opcode (encodeS imm rs2 rs1 f3 op) = op := opcode_mkWord ..
@[simp] theorem funct3_encodeS : funct3 (encodeS imm rs2 rs1 f3 op) = f3 := funct3_mkWord ..
@[simp] theorem rs1Field_encodeS : rs1Field (encodeS imm rs2 rs1 f3 op) = rs1 := rs1Field_mkWord ..
@[simp] theorem rs2Field_encodeS : rs2Field (encodeS imm rs2 rs1 f3 op) = rs2 := rs2Field_mkWord ..
@[simp] theorem immS_encodeS : immS (encodeS imm rs2 rs1 f3 op) = imm := by
  simp (disch := rfl) only [immS, encodeS, funct7_mkWord, rdField_mkWord, extractLsb'_append_extractLsb'_eq_extractLsb',
    BitVec.extractLsb'_eq_self]

end

section
variable (offset : BitVec 13) (rs2 rs1 : RegIdx) (f3 : BitVec 3) (op : BitVec 7)

@[simp] theorem opcode_encodeB : opcode (encodeB offset rs2 rs1 f3 op) = op := opcode_mkWord ..
@[simp] theorem funct3_encodeB : funct3 (encodeB offset rs2 rs1 f3 op) = f3 := funct3_mkWord ..
@[simp] theorem rs1Field_encodeB : rs1Field (encodeB offset rs2 rs1 f3 op) = rs1 := rs1Field_mkWord ..
@[simp] theorem rs2Field_encodeB : rs2Field (encodeB offset rs2 rs1 f3 op) = rs2 := rs2Field_mkWord ..

end

theorem isEven_iff {n : Nat} {offset : BitVec n} : isEven offset = true ↔ offset.extractLsb' 0 1 = 0#1 := by
  simp [isEven]

@[simp] theorem offsetB_encodeB {offset : BitVec 13} (h : isEven offset = true) (rs2 rs1 : RegIdx) (f3 : BitVec 3)
    (op : BitVec 7) : offsetB (encodeB offset rs2 rs1 f3 op) = offset := by
  simp (disch := rfl) only [offsetB, encodeB, funct7_mkWord, rdField_mkWord, ← isEven_iff.mp h, extractLsb'_append_eq_left,
    extractLsb'_append_eq_right, extractLsb'_append_extractLsb'_eq_extractLsb', BitVec.extractLsb'_eq_self]

section
variable (imm : BitVec 20) (offset : BitVec 21) (rd : RegIdx) (op : BitVec 7)

@[simp] theorem opcode_encodeU : opcode (encodeU imm rd op) = op := opcode_mkWord ..
@[simp] theorem rdField_encodeU : rdField (encodeU imm rd op) = rd := rdField_mkWord ..
@[simp] theorem immU_encodeU : immU (encodeU imm rd op) = imm := by
  simp (disch := rfl) only [immU, encodeU, funct7_mkWord, rs2Field_mkWord, rs1Field_mkWord, funct3_mkWord,
    extractLsb'_append_extractLsb'_eq_extractLsb', BitVec.extractLsb'_eq_self]

@[simp] theorem opcode_encodeJ : opcode (encodeJ offset rd op) = op := opcode_mkWord ..
@[simp] theorem rdField_encodeJ : rdField (encodeJ offset rd op) = rd := rdField_mkWord ..

end

@[simp] theorem offsetJ_encodeJ {offset : BitVec 21} (h : isEven offset = true) (rd : RegIdx) (op : BitVec 7) :
    offsetJ (encodeJ offset rd op) = offset := by
  simp (disch := rfl) only [offsetJ, encodeJ, funct7_mkWord, rs2Field_mkWord, rs1Field_mkWord, funct3_mkWord,
    ← isEven_iff.mp h, extractLsb'_append_eq_left, extractLsb'_append_eq_right,
    extractLsb'_append_extractLsb'_eq_extractLsb', BitVec.extractLsb'_eq_self]

section
variable (f5 : BitVec 5) (aq rl : Bool) (rs2 rs1 rd : RegIdx)

@[simp] theorem opcode_encodeAtomic : opcode (encodeAtomic f5 aq rl rs2 rs1 rd) = 0b0101111 := opcode_mkWord ..
@[simp] theorem funct3_encodeAtomic : funct3 (encodeAtomic f5 aq rl rs2 rs1 rd) = 0b010 := funct3_mkWord ..
@[simp] theorem rdField_encodeAtomic : rdField (encodeAtomic f5 aq rl rs2 rs1 rd) = rd := rdField_mkWord ..
@[simp] theorem rs1Field_encodeAtomic : rs1Field (encodeAtomic f5 aq rl rs2 rs1 rd) = rs1 := rs1Field_mkWord ..
@[simp] theorem rs2Field_encodeAtomic : rs2Field (encodeAtomic f5 aq rl rs2 rs1 rd) = rs2 := rs2Field_mkWord ..
@[simp] theorem funct5_encodeAtomic : funct5 (encodeAtomic f5 aq rl rs2 rs1 rd) = f5 := by
  simp only [funct5, encodeAtomic, funct7_mkWord]
  exact append_above (append_above BitVec.extractLsb'_eq_self)
@[simp] theorem aqBit_encodeAtomic : aqBit (encodeAtomic f5 aq rl rs2 rs1 rd) = aq := by
  simp only [aqBit, encodeAtomic, funct7_mkWord, BitVec.getLsbD_append]
  simp
@[simp] theorem rlBit_encodeAtomic : rlBit (encodeAtomic f5 aq rl rs2 rs1 rd) = rl := by
  simp only [rlBit, encodeAtomic, funct7_mkWord, BitVec.getLsbD_append]
  simp

end

/-- The three fields of `fence` share the I immediate. -/
theorem encodeI_fence_fields (fm pred succ : BitVec 4) (rs1 : RegIdx) (f3 : BitVec 3) (rd : RegIdx) (op : BitVec 7) :
    fmField (encodeI (fm ++ pred ++ succ) rs1 f3 rd op) = fm ∧
      predField (encodeI (fm ++ pred ++ succ) rs1 f3 rd op) = pred ∧
      succField (encodeI (fm ++ pred ++ succ) rs1 f3 rd op) = succ := by
  simp only [fmField, predField, succField, immI_encodeI]
  exact ⟨append_above (append_above BitVec.extractLsb'_eq_self), append_above extractLsb'_append_eq_right,
    extractLsb'_append_eq_right⟩

/-! ### Decoding of encoded 32-bit instructions, by major opcode (30 R128, R129) -/

/-- The word of a `fence` that is `fence.tso` has the operands of `fence.tso` (30 R135). -/
theorem isFenceTso_of_encodeI_eq {fm pred succ : BitVec 4} {rs1 rd : RegIdx}
    (h : encodeI (fm ++ pred ++ succ) rs1 0 rd 0b0001111 = 0x8330000f) : isFenceTso fm pred succ rs1 rd = true := by
  obtain ⟨hfm, hpred, hsucc⟩ := encodeI_fence_fields fm pred succ rs1 0 rd 0b0001111
  have hrs1 := rs1Field_encodeI (fm ++ pred ++ succ) rs1 0 rd 0b0001111
  have hrd := rdField_encodeI (fm ++ pred ++ succ) rs1 0 rd 0b0001111
  rw [h] at hfm hpred hsucc hrs1 hrd
  subst hfm hpred hsucc hrs1 hrd
  rfl

/-- Settles O1: the decoder's choices on the word that the encoder writes, by cases on the instruction. -/
theorem decodeOfEncodeLong : Obligations.DecodeOfEncodeLong := by
  intro i hwf hlength
  cases i with
  | add | and | or | sll | slt | sltu | srl | xor => simp [encode, decode, decode32, decodeOp, decodeOpBase]
  | sra | sub | andn | orn | xnor => simp [encode, decode, decode32, decodeOp, decodeOpAlt]
  | div | divu | mul | mulh | mulhsu | mulhu | rem | remu => simp [encode, decode, decode32, decodeOp, decodeOpMul]
  | sh1add | sh2add | sh3add => simp [encode, decode, decode32, decodeOp, decodeOpShAdd]
  | max | maxu | min | minu => simp [encode, decode, decode32, decodeOp, decodeOpMinMax]
  | rol | ror => simp [encode, decode, decode32, decodeOp, decodeOpRotate]
  | bclr | bext => simp [encode, decode, decode32, decodeOp, decodeOpBclr]
  | binv => simp [encode, decode, decode32, decodeOp, decodeOpBinv]
  | bset => simp [encode, decode, decode32, decodeOp, decodeOpBset]
  | pack rd rs1 rs2 =>
    have hrs2 : rs2 ≠ 0#5 := by simpa [Instr.wf] using hwf
    simp [encode, decode, decode32, decodeOp, decodeOpPack, hrs2]
  | packh | zextH => simp [encode, decode, decode32, decodeOp, decodeOpPack]
  | addi | andi | ori | slti | sltiu | xori => simp [encode, decode, decode32, decodeOpImm]
  | slli | bclri | binvi | bseti | clz | cpop | ctz | sextB | sextH | zip =>
    simp [encode, decode, decode32, decodeOpImm, decodeOpImm1]
  | srai | srli | orcB | rev8 | rori | bexti | brev8 | unzip => simp [encode, decode, decode32, decodeOpImm, decodeOpImm5]
  | auipc | lui => simp [encode, decode, decode32]
  | beq _ _ offset | bge _ _ offset | bgeu _ _ offset | blt _ _ offset | bltu _ _ offset | bne _ _ offset =>
    simp [encode, decode, decode32, decodeBranch, offsetB_encodeB (show isEven offset = true from hwf)]
  | jal _ offset => simp [encode, decode, decode32, offsetJ_encodeJ (show isEven offset = true from hwf)]
  | jalr => simp [encode, decode, decode32, decodeJalr]
  | lb | lbu | lh | lhu | lw => simp [encode, decode, decode32, decodeLoad]
  | sb | sh | sw => simp [encode, decode, decode32, decodeStore]
  | amoaddW | amoandW | amomaxW | amomaxuW | amominW | amominuW | amoorW | amoswapW | amoxorW | lrW | scW =>
    simp [encode, decode, decode32, decodeAmo]
  | fence fm pred succ rs1 rd =>
    have hword : ¬ encodeI (fm ++ pred ++ succ) rs1 0 rd 0b0001111 = 0x8330000f := fun h => by
      simp [Instr.wf, isFenceTso_of_encodeI_eq h] at hwf
    obtain ⟨hfm, hpred, hsucc⟩ := encodeI_fence_fields fm pred succ rs1 0 rd 0b0001111
    simp_all [encode, decode, decode32, decodeMiscMem]
  | fenceTso => rfl
  | fenceI => simp [encode, decode, decode32, decodeMiscMem]
  | csrrc | csrrci | csrrs | csrrsi | csrrw | csrrwi => simp [encode, decode, decode32, decodeSystem]
  | ebreak | ecall | mret | wfi => rfl
  | _ => simp [Instr.length] at hlength

end Sys2Proof.Machine
end

section
/-!
PROOF. Decoding undoes encoding for the 16-bit instructions (30 R124 to R130), as for the 32-bit ones: each immediate is read back from
the fields over which its format splits it.
-/

namespace Sys2Proof.Machine

open BitVec (extractLsb'_append_eq_left extractLsb'_append_eq_right extractLsb'_append_extractLsb'_eq_extractLsb')

/-! ### Immediates, read back from the 16-bit formats (30 R127) -/

theorem isMultipleOf4_iff {n : Nat} {x : BitVec n} : isMultipleOf4 x = true ↔ x.extractLsb' 0 2 = 0#2 := by
  simp [isMultipleOf4]

theorem isMultipleOf16_iff {n : Nat} {x : BitVec n} : isMultipleOf16 x = true ↔ x.extractLsb' 0 4 = 0#4 := by
  simp [isMultipleOf16]

/-- An appended word is 0 where both parts are. -/
theorem append_eq_zero_iff {n m : Nat} {a : BitVec n} {b : BitVec m} : a ++ b = 0#(n + m) ↔ a = 0#n ∧ b = 0#m := by
  constructor
  · intro h
    have hleft := congrArg (·.extractLsb' m n) h
    have hright := congrArg (·.extractLsb' 0 m) h
    simp only [extractLsb'_append_eq_left, extractLsb'_append_eq_right, BitVec.extractLsb'_zero] at hleft hright
    exact ⟨hleft, hright⟩
  · rintro ⟨rfl, rfl⟩
    exact BitVec.zero_append_zero

/-- A five-bit value is its two parts. -/
@[simp] theorem extractLsb'_reg (r : RegIdx) : r.extractLsb' 3 2 ++ r.extractLsb' 0 3 = r := by
  simp (disch := rfl) only [extractLsb'_append_extractLsb'_eq_extractLsb', BitVec.extractLsb'_eq_self]

section
variable (f3 : BitVec 3) (imm : BitVec 6) (rd rs2 : RegIdx) (q : BitVec 2) (b12 : BitVec 1)

@[simp] theorem cFunct3_encodeCI : cFunct3 (encodeCI f3 imm rd q) = f3 := cFunct3_mkHalf ..
@[simp] theorem quadrant_encodeCI : quadrant (encodeCI f3 imm rd q) = q := quadrant_mkHalf ..
@[simp] theorem cRd_encodeCI : cRd (encodeCI f3 imm rd q) = rd := by simp [cRd, encodeCI]
@[simp] theorem cBit12_encodeCI : cBit12 (encodeCI f3 imm rd q) = imm.extractLsb' 5 1 := cBit12_mkHalf ..
@[simp] theorem cLow5_encodeCI : cLow5 (encodeCI f3 imm rd q) = imm.extractLsb' 0 5 := by
  simp (disch := rfl) only [cLow5, encodeCI, cBits65_mkHalf, cReg42_mkHalf, extractLsb'_append_extractLsb'_eq_extractLsb']
@[simp] theorem cImm6_encodeCI : cImm6 (encodeCI f3 imm rd q) = imm := by
  simp (disch := rfl) only [cImm6, cBit12_encodeCI, cLow5_encodeCI, extractLsb'_append_extractLsb'_eq_extractLsb',
    BitVec.extractLsb'_eq_self]

@[simp] theorem cFunct3_encodeCR : cFunct3 (encodeCR f3 b12 rd rs2) = f3 := cFunct3_mkHalf ..
@[simp] theorem quadrant_encodeCR : quadrant (encodeCR f3 b12 rd rs2) = 0b10 := quadrant_mkHalf ..
@[simp] theorem cBit12_encodeCR : cBit12 (encodeCR f3 b12 rd rs2) = b12 := cBit12_mkHalf ..
@[simp] theorem cRd_encodeCR : cRd (encodeCR f3 b12 rd rs2) = rd := by simp [cRd, encodeCR]
@[simp] theorem cLow5_encodeCR : cLow5 (encodeCR f3 b12 rd rs2) = rs2 := by simp [cLow5, encodeCR]

end

theorem cUimmWord_encodeCWord {uimm : BitVec 7} (h : isMultipleOf4 uimm = true) (f3 : BitVec 3) (r97 r42 : CReg) :
    cUimmWord (encodeCWord f3 uimm r97 r42) = uimm := by
  simp (disch := rfl) only [cUimmWord, encodeCWord, cBits65_mkHalf, cBit12_mkHalf, cFunct2_mkHalf, ← isMultipleOf4_iff.mp h,
    extractLsb'_append_eq_left, extractLsb'_append_eq_right, extractLsb'_append_extractLsb'_eq_extractLsb',
    BitVec.extractLsb'_eq_self]

/-- The parts of a CJ offset, from the highest bit down (30 R127). -/
theorem cOffsetJ_encodeCJ {offset : BitVec 12} (h : isEven offset = true) (f3 : BitVec 3) :
    cOffsetJ (encodeCJ f3 offset) = offset := by
  have hmid : (offset.extractLsb' 8 1 ++ offset.extractLsb' 10 1 ++ offset.extractLsb' 6 1).extractLsb' 1 1 =
      offset.extractLsb' 10 1 := append_above (k := 0) extractLsb'_append_eq_right
  have hhigh : (offset.extractLsb' 8 1 ++ offset.extractLsb' 10 1 ++ offset.extractLsb' 6 1).extractLsb' 2 1 =
      offset.extractLsb' 8 1 := append_above (k := 1) extractLsb'_append_eq_left
  simp (disch := rfl) only [cOffsetJ, encodeCJ, cBits65_mkHalf, cBit12_mkHalf, cFunct2_mkHalf, cReg97_mkHalf, cReg42_mkHalf,
    ← isEven_iff.mp h, hmid, hhigh, extractLsb'_append_eq_left, extractLsb'_append_eq_right,
    extractLsb'_append_extractLsb'_eq_extractLsb', BitVec.extractLsb'_eq_self]

theorem cOffsetB_encodeCB {offset : BitVec 9} (h : isEven offset = true) (f3 : BitVec 3) (rs1 : CReg) :
    cOffsetB (encodeCB f3 offset rs1) = offset := by
  simp (disch := rfl) only [cOffsetB, encodeCB, cBits65_mkHalf, cBit12_mkHalf, cFunct2_mkHalf, cReg42_mkHalf,
    ← isEven_iff.mp h, extractLsb'_append_eq_left, extractLsb'_append_eq_right,
    extractLsb'_append_extractLsb'_eq_extractLsb', BitVec.extractLsb'_eq_self]

@[simp] theorem cUimmByte_encodeCByte (f2 uimm : BitVec 2) (r97 r42 : CReg) :
    cUimmByte (encodeCByte f2 uimm r97 r42) = uimm := by
  simp (disch := rfl) only [cUimmByte, encodeCByte, cBits65_mkHalf, extractLsb'_append_eq_left, extractLsb'_append_eq_right,
    extractLsb'_append_extractLsb'_eq_extractLsb', BitVec.extractLsb'_eq_self]

theorem cUimmHalf_encodeCHalf {uimm : BitVec 2} (h : isEven uimm = true) (f2 : BitVec 2) (f1 : BitVec 1) (r97 r42 : CReg) :
    cUimmHalf (encodeCHalf f2 f1 uimm r97 r42) = uimm := by
  simp (disch := rfl) only [cUimmHalf, encodeCHalf, cBits65_mkHalf, ← isEven_iff.mp h, extractLsb'_append_eq_right,
    extractLsb'_append_extractLsb'_eq_extractLsb', BitVec.extractLsb'_eq_self]

section
variable (f2 b98 : BitVec 2) (rlist : BitVec 4) (spimm : BitVec 2)

theorem cSpimm_encodeCMPP : cSpimm (encodeCMPP f2 b98 rlist spimm) = spimm := by
  simp only [cSpimm, encodeCMPP, cReg42_mkHalf, extractLsb'_append_eq_right]

theorem cFunct2_encodeCMPP : cFunct2 (encodeCMPP f2 b98 rlist spimm) = f2 := cFunct2_mkHalf ..

/-- Bits 9:8 of a push or pop tell which it is (30 R130). -/
theorem cReg97_encodeCMPP : (cReg97 (encodeCMPP f2 b98 rlist spimm)).extractLsb' 1 2 = b98 := by
  simp only [encodeCMPP, cReg97_mkHalf, extractLsb'_append_eq_left]

end

section
variable (rd : CReg) (r : RegIdx) (f3 : BitVec 3) (q : BitVec 2)

theorem cUimmAddi4spn_encode {uimm : BitVec 10} (h : isMultipleOf4 uimm = true) :
    cUimmAddi4spn (mkHalf f3 (uimm.extractLsb' 5 1) (uimm.extractLsb' 4 1 ++ uimm.extractLsb' 9 1)
      (uimm.extractLsb' 6 3) (uimm.extractLsb' 2 1 ++ uimm.extractLsb' 3 1) rd q) = uimm := by
  simp (disch := rfl) only [cUimmAddi4spn, cBits65_mkHalf, cBit12_mkHalf, cFunct2_mkHalf, cReg97_mkHalf,
    ← isMultipleOf4_iff.mp h, extractLsb'_append_eq_left, extractLsb'_append_eq_right,
    extractLsb'_append_extractLsb'_eq_extractLsb', BitVec.extractLsb'_eq_self]

theorem cImmAddi16sp_encode {imm : BitVec 10} (h : isMultipleOf16 imm = true) :
    cImmAddi16sp (mkHalf f3 (imm.extractLsb' 9 1) 0b00 0b010 (imm.extractLsb' 4 1 ++ imm.extractLsb' 6 1)
      (imm.extractLsb' 7 2 ++ imm.extractLsb' 5 1) q) = imm := by
  simp (disch := rfl) only [cImmAddi16sp, cBits65_mkHalf, cBit12_mkHalf, cReg42_mkHalf, ← isMultipleOf16_iff.mp h,
    extractLsb'_append_eq_left, extractLsb'_append_eq_right, extractLsb'_append_extractLsb'_eq_extractLsb',
    BitVec.extractLsb'_eq_self]

theorem cUimmLwsp_encode {uimm : BitVec 8} (h : isMultipleOf4 uimm = true) :
    cUimmLwsp (mkHalf f3 (uimm.extractLsb' 5 1) (r.extractLsb' 3 2) (r.extractLsb' 0 3) (uimm.extractLsb' 3 2)
      (uimm.extractLsb' 2 1 ++ uimm.extractLsb' 6 2) q) = uimm := by
  simp (disch := rfl) only [cUimmLwsp, cBits65_mkHalf, cBit12_mkHalf, cReg42_mkHalf, ← isMultipleOf4_iff.mp h,
    extractLsb'_append_eq_left, extractLsb'_append_eq_right, extractLsb'_append_extractLsb'_eq_extractLsb',
    BitVec.extractLsb'_eq_self]

theorem cUimmSwsp_encode {uimm : BitVec 8} (h : isMultipleOf4 uimm = true) :
    cUimmSwsp (mkHalf f3 (uimm.extractLsb' 5 1) (uimm.extractLsb' 3 2) (uimm.extractLsb' 2 1 ++ uimm.extractLsb' 6 2)
      (r.extractLsb' 3 2) (r.extractLsb' 0 3) q) = uimm := by
  simp (disch := rfl) only [cUimmSwsp, cFunct2_mkHalf, cBit12_mkHalf, cReg97_mkHalf, ← isMultipleOf4_iff.mp h,
    extractLsb'_append_eq_left, extractLsb'_append_eq_right, extractLsb'_append_extractLsb'_eq_extractLsb',
    BitVec.extractLsb'_eq_self]

end

/-- No 16-bit instruction but one with bits 15:13 at 0 can be the word 0 (30 R130). -/
theorem ne_zero_of_cFunct3 {h : Half} (h3 : cFunct3 h ≠ 0b000) : h ≠ 0#16 := by
  rintro rfl
  exact h3 rfl

/-- The immediates of c.lui and c.addi16sp lie in the same bits, so that one is 0 where the other is (30 R127). -/
theorem cImmAddi16sp_eq_zero_iff {h : Half} : cImmAddi16sp h = 0#10 ↔ cImm6 h = 0#6 := by
  have h65 : cBits65 h = 0#2 ↔ (cBits65 h).extractLsb' 1 1 = 0#1 ∧ (cBits65 h).extractLsb' 0 1 = 0#1 := by
    rw [← append_eq_zero_iff, extractLsb'_append_extractLsb'_eq_extractLsb' (show 1 = 0 + 1 from rfl),
      BitVec.extractLsb'_eq_self]
  have h42 : cReg42 h = 0#3 ↔ (cReg42 h).extractLsb' 1 2 = 0#2 ∧ (cReg42 h).extractLsb' 0 1 = 0#1 := by
    rw [← append_eq_zero_iff, extractLsb'_append_extractLsb'_eq_extractLsb' (show 1 = 0 + 1 from rfl),
      BitVec.extractLsb'_eq_self]
  have himm : cImm6 h = 0#6 ↔ cBit12 h = 0#1 ∧ cBits65 h = 0#2 ∧ cReg42 h = 0#3 := by
    rw [← append_eq_zero_iff, ← append_eq_zero_iff]
    rfl
  have hadj : cImmAddi16sp h = 0#10 ↔ ((((cBit12 h = 0#1 ∧ (cReg42 h).extractLsb' 1 2 = 0#2) ∧
      (cBits65 h).extractLsb' 0 1 = 0#1) ∧ (cReg42 h).extractLsb' 0 1 = 0#1) ∧ (cBits65 h).extractLsb' 1 1 = 0#1) ∧
      0#4 = 0#4 := by
    rw [← append_eq_zero_iff, ← append_eq_zero_iff, ← append_eq_zero_iff, ← append_eq_zero_iff, ← append_eq_zero_iff]
    rfl
  rw [himm, hadj, h65, h42]
  constructor
  · rintro ⟨⟨⟨⟨⟨h12, h43⟩, h5⟩, h2⟩, h6⟩, -⟩
    exact ⟨h12, ⟨h6, h5⟩, h43, h2⟩
  · rintro ⟨h12, ⟨h6, h5⟩, h43, h2⟩
    exact ⟨⟨⟨⟨⟨h12, h43⟩, h5⟩, h2⟩, h6⟩, rfl⟩

/-! ### The obligation -/

/-- Settles O2: the decoder's choices on the parcel that the encoder writes, by cases on the instruction. -/
theorem decodeOfEncodeShort : Obligations.DecodeOfEncodeShort := by
  intro i hwf hlength
  cases i with
  | cAddi4spn rd uimm =>
    obtain ⟨hmul, hne⟩ : isMultipleOf4 uimm = true ∧ uimm ≠ 0#10 := by simpa [Instr.wf] using hwf
    have himm := cUimmAddi4spn_encode rd 0b000 0b00 hmul
    have hnot (h : mkHalf 0b000 (uimm.extractLsb' 5 1) (uimm.extractLsb' 4 1 ++ uimm.extractLsb' 9 1)
        (uimm.extractLsb' 6 3) (uimm.extractLsb' 2 1 ++ uimm.extractLsb' 3 1) rd 0b00 = 0) : False := by
      rw [h] at himm
      exact hne himm.symm
    simp_all [encode, decode, decode16, decodeQuadrant0]
  | cLw _ _ uimm | cSw _ _ uimm =>
    simp only [encode, decode, decode16, decodeQuadrant0, cUimmWord_encodeCWord (uimm := uimm) hwf]
    simp [encodeCWord, ne_zero_of_cFunct3]
  | cNop | cLi => simp [encode, decode, decode16, decodeQuadrant1]
  | cAddi rd imm =>
    have hrd : rd ≠ 0#5 := by simpa [Instr.wf] using hwf
    simp [encode, decode, decode16, decodeQuadrant1, hrd]
  | cJal offset | cJ offset =>
    simp only [encode, decode, decode16, decodeQuadrant1, cOffsetJ_encodeCJ (offset := offset) hwf]
    simp [encodeCJ]
  | cBeqz _ offset | cBnez _ offset =>
    simp only [encode, decode, decode16, decodeQuadrant1, cOffsetB_encodeCB (offset := offset) hwf]
    simp [encodeCB]
  | cAddi16sp imm =>
    obtain ⟨hmul, hne⟩ : isMultipleOf16 imm = true ∧ imm ≠ 0#10 := by simpa [Instr.wf] using hwf
    have himm := cImmAddi16sp_encode 0b011 0b01 hmul
    have hnot : ¬ cImm6 _ = 0#6 := fun h => hne (himm.symm.trans (cImmAddi16sp_eq_zero_iff.mpr h))
    simp_all [encode, decode, decode16, decodeQuadrant1, cRd]
  | cLui rd imm =>
    obtain ⟨hrd, himm⟩ : rd ≠ 2#5 ∧ imm ≠ 0#6 := by simpa [Instr.wf] using hwf
    simp [encode, decode, decode16, decodeQuadrant1, hrd, himm]
  | cAndi _ imm =>
    have himm : imm.extractLsb' 5 1 ++ (imm.extractLsb' 3 2 ++ imm.extractLsb' 0 3) = imm := by
      simp (disch := rfl) only [extractLsb'_append_extractLsb'_eq_extractLsb', BitVec.extractLsb'_eq_self]
    simp [encode, decode, decode16, decodeQuadrant1, decodeQuadrant1Alu, cLow5, cImm6, himm]
  | cSrli | cSrai | cSub | cXor | cOr | cAnd | cMul =>
    simp [encode, decode, decode16, decodeQuadrant1, decodeQuadrant1Alu, encodeCA, cLow5]
  | cZextB | cSextB | cZextH | cSextH | cNot =>
    simp [encode, decode, decode16, decodeQuadrant1, decodeQuadrant1Alu, decodeZcbUnary, encodeCA]
  | cSlli rd shamt =>
    have h12 : (0#1 ++ shamt).extractLsb' 5 1 = 0#1 := extractLsb'_append_eq_left
    have hlow : (0#1 ++ shamt).extractLsb' 0 5 = shamt := extractLsb'_append_eq_right
    simp [encode, decode, decode16, decodeQuadrant2, h12, hlow]
  | cLwsp rd uimm =>
    obtain ⟨hrd, hmul⟩ : rd ≠ 0#5 ∧ isMultipleOf4 uimm = true := by simpa [Instr.wf] using hwf
    simp [encode, decode, decode16, decodeQuadrant2, cRd, hrd, cUimmLwsp_encode rd _ _ hmul]
  | cSwsp rs2 uimm => simp [encode, decode, decode16, decodeQuadrant2, cLow5, cUimmSwsp_encode rs2 _ _ (uimm := uimm) hwf]
  | cJr rs1 | cJalr rs1 =>
    have hrs1 : rs1 ≠ 0#5 := by simpa [Instr.wf] using hwf
    simp [encode, decode, decode16, decodeQuadrant2, decodeQuadrant2Cr, hrs1]
  | cMv _ rs2 | cAdd _ rs2 =>
    have hrs2 : rs2 ≠ 0#5 := by simpa [Instr.wf] using hwf
    simp [encode, decode, decode16, decodeQuadrant2, decodeQuadrant2Cr, hrs2]
  | cEbreak => rfl
  | cLbu _ _ uimm | cSb _ _ uimm =>
    simp only [encode, decode, decode16, decodeQuadrant0, decodeZcbMem, cUimmByte_encodeCByte]
    simp [encodeCByte, ne_zero_of_cFunct3]
  | cLhu _ _ uimm | cLh _ _ uimm | cSh _ _ uimm =>
    simp only [encode, decode, decode16, decodeQuadrant0, decodeZcbMem, cUimmHalf_encodeCHalf (uimm := uimm) hwf]
    simp [encodeCHalf, ne_zero_of_cFunct3, extractLsb'_append_eq_left (w := 1) (w' := 1)]
  | cmPush | cmPop | cmPopretz | cmPopret =>
    simp [encode, decode_encodeCMPP, decodeZcmp, cBit12_encodeCMPP, cRlist_encodeCMPP, cSpimm_encodeCMPP,
      cFunct2_encodeCMPP, cReg97_encodeCMPP, show isRegisterList _ = true from hwf]
  | cmMvsa01 r1s r2s =>
    have hne : r1s ≠ r2s := by simpa [Instr.wf] using hwf
    simp [encode, decode, decode16, decodeQuadrant2, decodeZcmp, hne]
  | cmMva01s => simp [encode, decode, decode16, decodeQuadrant2, decodeZcmp]
  | _ => simp [Instr.length] at hlength

end Sys2Proof.Machine
end

section
/-!
PROOF. Encoding undoes decoding (30 R121 to R130). A word is put together again from its fields; every format puts the immediate that
the decoder reads back into the fields that it comes from; so a word decodes to an instruction only where the constants of that
instruction's encoding are the word's own fields. One lemma for each part of the decoder says so, in the order of the decoder.
-/

namespace Sys2Proof.Machine

open BitVec (extractLsb'_append_eq_left extractLsb'_append_eq_right extractLsb'_append_eq_of_le extractLsb'_append_eq_of_add_le
  extractLsb'_append_extractLsb'_eq_extractLsb')

/-! ### A 32-bit word from its fields -/

section
variable {w : Word} {f7 : BitVec 7} {rs2 rs1 : RegIdx} {f3 : BitVec 3} {rd : RegIdx} {op : BitVec 7}

theorem mkWord_of_fields (h7 : funct7 w = f7) (hrs2 : rs2Field w = rs2) (hrs1 : rs1Field w = rs1) (h3 : funct3 w = f3)
    (hrd : rdField w = rd) (hop : opcode w = op) : mkWord f7 rs2 rs1 f3 rd op = w := by
  subst h7 hrs2 hrs1 h3 hrd hop
  simp (disch := rfl) only [mkWord, funct7, rs2Field, rs1Field, funct3, rdField, opcode,
    extractLsb'_append_extractLsb'_eq_extractLsb', BitVec.extractLsb'_eq_self]

theorem encodeI_of_fields (h3 : funct3 w = f3) (hop : opcode w = op) :
    encodeI (immI w) (rs1Field w) f3 (rdField w) op = w := by
  simp only [encodeI, immI, extractLsb'_append_eq_left, extractLsb'_append_eq_right]
  exact mkWord_of_fields rfl rfl rfl h3 rfl hop

theorem encodeS_of_fields (h3 : funct3 w = f3) (hop : opcode w = op) :
    encodeS (immS w) (rs2Field w) (rs1Field w) f3 op = w := by
  simp only [encodeS, immS, extractLsb'_append_eq_left, extractLsb'_append_eq_right]
  exact mkWord_of_fields rfl rfl rfl h3 rfl hop

theorem encodeU_of_fields (hop : opcode w = op) : encodeU (immU w) (rdField w) op = w := by
  simp (disch := decide) only [encodeU, immU, extractLsb'_append_eq_of_le, extractLsb'_append_eq_of_add_le]
  simp only [Nat.reduceSub, BitVec.extractLsb'_eq_self]
  exact mkWord_of_fields rfl rfl rfl rfl rfl hop

theorem encodeAtomic_of_fields {f5 : BitVec 5} (h3 : funct3 w = 0b010) (h5 : funct5 w = f5) (hrs2 : rs2Field w = rs2)
    (hop : opcode w = 0b0101111) : encodeAtomic f5 (aqBit w) (rlBit w) rs2 (rs1Field w) (rdField w) = w := by
  subst h5
  refine mkWord_of_fields ?_ hrs2 rfl h3 rfl hop
  have bit (k : Nat) : BitVec.ofBool ((funct7 w).getLsbD k) = (funct7 w).extractLsb' k 1 := by
    ext i hi
    simp [show i = 0 by omega]
  simp (disch := rfl) only [funct5, aqBit, rlBit, bit, extractLsb'_append_extractLsb'_eq_extractLsb',
    BitVec.extractLsb'_eq_self]

end

section
variable (w : Word) (rs2 rs1 : RegIdx) (f3 : BitVec 3) (rd : RegIdx) (op : BitVec 7)

theorem encodeB_offsetB : encodeB (offsetB w) rs2 rs1 f3 op = mkWord (funct7 w) rs2 rs1 f3 (rdField w) op := by
  simp (disch := decide) only [encodeB, offsetB, extractLsb'_append_eq_of_le, extractLsb'_append_eq_of_add_le]
  simp (disch := rfl) only [Nat.reduceSub, BitVec.extractLsb'_eq_self, extractLsb'_append_extractLsb'_eq_extractLsb']

theorem encodeJ_offsetJ : encodeJ (offsetJ w) rd op = mkWord (funct7 w) (rs2Field w) (rs1Field w) (funct3 w) rd op := by
  simp (disch := decide) only [encodeJ, offsetJ, extractLsb'_append_eq_of_le, extractLsb'_append_eq_of_add_le]
  simp (disch := rfl) only [Nat.reduceSub, BitVec.extractLsb'_eq_self, extractLsb'_append_extractLsb'_eq_extractLsb']

end

theorem encodeB_of_fields {w : Word} {f3 : BitVec 3} {op : BitVec 7} (h3 : funct3 w = f3) (hop : opcode w = op) :
    encodeB (offsetB w) (rs2Field w) (rs1Field w) f3 op = w :=
  (encodeB_offsetB ..).trans (mkWord_of_fields rfl rfl rfl h3 rfl hop)

theorem isEven_offsetB (w : Word) : isEven (offsetB w) = true := isEven_iff.mpr extractLsb'_append_eq_right

theorem isEven_offsetJ (w : Word) : isEven (offsetJ w) = true := isEven_iff.mpr extractLsb'_append_eq_right

/-! ### What a 32-bit word decodes to -/

/-- The instruction is well-formed and the word is its code. -/
def HasWord (i : Instr) (w : Word) : Prop := i.wf = true ∧ encode i = .word w ∧ i.length = 4

section
variable {w : Word} {i : Instr}

theorem decodeLoad_hasWord (hop : opcode w = 0b0000011) (h : decodeLoad w = .ok i) : HasWord i w := by
  unfold decodeLoad at h
  iterate 5
    obtain ⟨h3, h⟩ | ⟨-, h⟩ := ite_eq_iff.mp h
    · cases h; exact ⟨rfl, congrArg Code.word (encodeI_of_fields h3 hop), rfl⟩
  cases h

theorem decodeStore_hasWord (hop : opcode w = 0b0100011) (h : decodeStore w = .ok i) : HasWord i w := by
  unfold decodeStore at h
  iterate 3
    obtain ⟨h3, h⟩ | ⟨-, h⟩ := ite_eq_iff.mp h
    · cases h; exact ⟨rfl, congrArg Code.word (encodeS_of_fields h3 hop), rfl⟩
  cases h

theorem decodeBranch_hasWord (hop : opcode w = 0b1100011) (h : decodeBranch w = .ok i) : HasWord i w := by
  unfold decodeBranch at h
  iterate 6
    obtain ⟨h3, h⟩ | ⟨-, h⟩ := ite_eq_iff.mp h
    · cases h; exact ⟨isEven_offsetB w, congrArg Code.word (encodeB_of_fields h3 hop), rfl⟩
  cases h

theorem decodeJalr_hasWord (hop : opcode w = 0b1100111) (h : decodeJalr w = .ok i) : HasWord i w := by
  unfold decodeJalr at h
  obtain ⟨h3, h⟩ | ⟨-, h⟩ := ite_eq_iff.mp h
  · cases h; exact ⟨rfl, congrArg Code.word (encodeI_of_fields h3 hop), rfl⟩
  cases h

/-- A word of the OP-IMM forms that have two registers, or a register and a constant, in place of the immediate. -/
theorem decodeOpImm1_hasWord (hop : opcode w = 0b0010011) (h3 : funct3 w = 0b001) (h : decodeOpImm1 w = .ok i) :
    HasWord i w := by
  unfold decodeOpImm1 at h
  iterate 4
    obtain ⟨h7, h⟩ | ⟨-, h⟩ := ite_eq_iff.mp h
    · cases h; exact ⟨rfl, congrArg Code.word (mkWord_of_fields h7 rfl rfl h3 rfl hop), rfl⟩
  obtain ⟨h7, h⟩ | ⟨-, h⟩ := ite_eq_iff.mp h
  · iterate 5
      obtain ⟨h2, h⟩ | ⟨-, h⟩ := ite_eq_iff.mp h
      · cases h; exact ⟨rfl, congrArg Code.word (mkWord_of_fields h7 h2 rfl h3 rfl hop), rfl⟩
    cases h
  obtain ⟨h7, h⟩ | ⟨-, h⟩ := ite_eq_iff.mp h
  · obtain ⟨h2, h⟩ | ⟨-, h⟩ := ite_eq_iff.mp h
    · cases h; exact ⟨rfl, congrArg Code.word (mkWord_of_fields h7 h2 rfl h3 rfl hop), rfl⟩
    cases h
  cases h

theorem decodeOpImm5_hasWord (hop : opcode w = 0b0010011) (h3 : funct3 w = 0b101) (h : decodeOpImm5 w = .ok i) :
    HasWord i w := by
  unfold decodeOpImm5 at h
  iterate 4
    obtain ⟨h7, h⟩ | ⟨-, h⟩ := ite_eq_iff.mp h
    · cases h; exact ⟨rfl, congrArg Code.word (mkWord_of_fields h7 rfl rfl h3 rfl hop), rfl⟩
  obtain ⟨h7, h⟩ | ⟨-, h⟩ := ite_eq_iff.mp h
  · obtain ⟨h2, h⟩ | ⟨-, h⟩ := ite_eq_iff.mp h
    · cases h; exact ⟨rfl, congrArg Code.word (mkWord_of_fields h7 h2 rfl h3 rfl hop), rfl⟩
    cases h
  obtain ⟨h7, h⟩ | ⟨-, h⟩ := ite_eq_iff.mp h
  · iterate 2
      obtain ⟨h2, h⟩ | ⟨-, h⟩ := ite_eq_iff.mp h
      · cases h; exact ⟨rfl, congrArg Code.word (mkWord_of_fields h7 h2 rfl h3 rfl hop), rfl⟩
    cases h
  obtain ⟨h7, h⟩ | ⟨-, h⟩ := ite_eq_iff.mp h
  · obtain ⟨h2, h⟩ | ⟨-, h⟩ := ite_eq_iff.mp h
    · cases h; exact ⟨rfl, congrArg Code.word (mkWord_of_fields h7 h2 rfl h3 rfl hop), rfl⟩
    cases h
  cases h

theorem eq_five_of_ne {x : BitVec 3} (h0 : x ≠ 0) (h1 : x ≠ 1) (h2 : x ≠ 2) (h3 : x ≠ 3) (h4 : x ≠ 4) (h6 : x ≠ 6)
    (h7 : x ≠ 7) : x = 5 := by bv_omega

theorem decodeOpImm_hasWord (hop : opcode w = 0b0010011) (h : decodeOpImm w = .ok i) : HasWord i w := by
  unfold decodeOpImm at h
  obtain ⟨h3, h⟩ | ⟨h0, h⟩ := ite_eq_iff.mp h
  · cases h; exact ⟨rfl, congrArg Code.word (encodeI_of_fields h3 hop), rfl⟩
  obtain ⟨h3, h⟩ | ⟨h2, h⟩ := ite_eq_iff.mp h
  · cases h; exact ⟨rfl, congrArg Code.word (encodeI_of_fields h3 hop), rfl⟩
  obtain ⟨h3, h⟩ | ⟨h3, h⟩ := ite_eq_iff.mp h
  · cases h; exact ⟨rfl, congrArg Code.word (encodeI_of_fields h3 hop), rfl⟩
  obtain ⟨h3, h⟩ | ⟨h4, h⟩ := ite_eq_iff.mp h
  · cases h; exact ⟨rfl, congrArg Code.word (encodeI_of_fields h3 hop), rfl⟩
  obtain ⟨h3, h⟩ | ⟨h6, h⟩ := ite_eq_iff.mp h
  · cases h; exact ⟨rfl, congrArg Code.word (encodeI_of_fields h3 hop), rfl⟩
  obtain ⟨h3, h⟩ | ⟨h7, h⟩ := ite_eq_iff.mp h
  · cases h; exact ⟨rfl, congrArg Code.word (encodeI_of_fields h3 hop), rfl⟩
  obtain ⟨h3, h⟩ | ⟨h1, h⟩ := ite_eq_iff.mp h
  · exact decodeOpImm1_hasWord hop h3 h
  · exact decodeOpImm5_hasWord hop (eq_five_of_ne h0 h1 h2 h3 h4 h6 h7) h

theorem decodeOpBase_hasWord (hop : opcode w = 0b0110011) (h7 : funct7 w = 0b0000000) (h : decodeOpBase w = .ok i) :
    HasWord i w := by
  unfold decodeOpBase at h
  iterate 8
    obtain ⟨h3, h⟩ | ⟨-, h⟩ := ite_eq_iff.mp h
    · cases h; exact ⟨rfl, congrArg Code.word (mkWord_of_fields h7 rfl rfl h3 rfl hop), rfl⟩
  cases h

theorem decodeOpAlt_hasWord (hop : opcode w = 0b0110011) (h7 : funct7 w = 0b0100000) (h : decodeOpAlt w = .ok i) :
    HasWord i w := by
  unfold decodeOpAlt at h
  iterate 5
    obtain ⟨h3, h⟩ | ⟨-, h⟩ := ite_eq_iff.mp h
    · cases h; exact ⟨rfl, congrArg Code.word (mkWord_of_fields h7 rfl rfl h3 rfl hop), rfl⟩
  cases h

theorem decodeOpMul_hasWord (hop : opcode w = 0b0110011) (h7 : funct7 w = 0b0000001) (h : decodeOpMul w = .ok i) :
    HasWord i w := by
  unfold decodeOpMul at h
  iterate 8
    obtain ⟨h3, h⟩ | ⟨-, h⟩ := ite_eq_iff.mp h
    · cases h; exact ⟨rfl, congrArg Code.word (mkWord_of_fields h7 rfl rfl h3 rfl hop), rfl⟩
  cases h

theorem decodeOpShAdd_hasWord (hop : opcode w = 0b0110011) (h7 : funct7 w = 0b0010000) (h : decodeOpShAdd w = .ok i) :
    HasWord i w := by
  unfold decodeOpShAdd at h
  iterate 3
    obtain ⟨h3, h⟩ | ⟨-, h⟩ := ite_eq_iff.mp h
    · cases h; exact ⟨rfl, congrArg Code.word (mkWord_of_fields h7 rfl rfl h3 rfl hop), rfl⟩
  cases h

theorem decodeOpMinMax_hasWord (hop : opcode w = 0b0110011) (h7 : funct7 w = 0b0000101) (h : decodeOpMinMax w = .ok i) :
    HasWord i w := by
  unfold decodeOpMinMax at h
  iterate 4
    obtain ⟨h3, h⟩ | ⟨-, h⟩ := ite_eq_iff.mp h
    · cases h; exact ⟨rfl, congrArg Code.word (mkWord_of_fields h7 rfl rfl h3 rfl hop), rfl⟩
  cases h

theorem decodeOpRotate_hasWord (hop : opcode w = 0b0110011) (h7 : funct7 w = 0b0110000) (h : decodeOpRotate w = .ok i) :
    HasWord i w := by
  unfold decodeOpRotate at h
  iterate 2
    obtain ⟨h3, h⟩ | ⟨-, h⟩ := ite_eq_iff.mp h
    · cases h; exact ⟨rfl, congrArg Code.word (mkWord_of_fields h7 rfl rfl h3 rfl hop), rfl⟩
  cases h

theorem decodeOpBclr_hasWord (hop : opcode w = 0b0110011) (h7 : funct7 w = 0b0100100) (h : decodeOpBclr w = .ok i) :
    HasWord i w := by
  unfold decodeOpBclr at h
  iterate 2
    obtain ⟨h3, h⟩ | ⟨-, h⟩ := ite_eq_iff.mp h
    · cases h; exact ⟨rfl, congrArg Code.word (mkWord_of_fields h7 rfl rfl h3 rfl hop), rfl⟩
  cases h

theorem decodeOpBinv_hasWord (hop : opcode w = 0b0110011) (h7 : funct7 w = 0b0110100) (h : decodeOpBinv w = .ok i) :
    HasWord i w := by
  unfold decodeOpBinv at h
  obtain ⟨h3, h⟩ | ⟨-, h⟩ := ite_eq_iff.mp h
  · cases h; exact ⟨rfl, congrArg Code.word (mkWord_of_fields h7 rfl rfl h3 rfl hop), rfl⟩
  cases h

theorem decodeOpBset_hasWord (hop : opcode w = 0b0110011) (h7 : funct7 w = 0b0010100) (h : decodeOpBset w = .ok i) :
    HasWord i w := by
  unfold decodeOpBset at h
  obtain ⟨h3, h⟩ | ⟨-, h⟩ := ite_eq_iff.mp h
  · cases h; exact ⟨rfl, congrArg Code.word (mkWord_of_fields h7 rfl rfl h3 rfl hop), rfl⟩
  cases h

theorem decodeOpPack_hasWord (hop : opcode w = 0b0110011) (h7 : funct7 w = 0b0000100) (h : decodeOpPack w = .ok i) :
    HasWord i w := by
  unfold decodeOpPack at h
  obtain ⟨h3, h⟩ | ⟨-, h⟩ := ite_eq_iff.mp h
  · obtain ⟨h2, h⟩ | ⟨h2, h⟩ := ite_eq_iff.mp h
    · cases h; exact ⟨rfl, congrArg Code.word (mkWord_of_fields h7 h2 rfl h3 rfl hop), rfl⟩
    · cases h; exact ⟨bne_iff_ne.mpr h2, congrArg Code.word (mkWord_of_fields h7 rfl rfl h3 rfl hop), rfl⟩
  obtain ⟨h3, h⟩ | ⟨-, h⟩ := ite_eq_iff.mp h
  · cases h; exact ⟨rfl, congrArg Code.word (mkWord_of_fields h7 rfl rfl h3 rfl hop), rfl⟩
  cases h

theorem decodeOp_hasWord (hop : opcode w = 0b0110011) (h : decodeOp w = .ok i) : HasWord i w := by
  unfold decodeOp at h
  obtain ⟨h7, h⟩ | ⟨-, h⟩ := ite_eq_iff.mp h
  · exact decodeOpBase_hasWord hop h7 h
  obtain ⟨h7, h⟩ | ⟨-, h⟩ := ite_eq_iff.mp h
  · exact decodeOpAlt_hasWord hop h7 h
  obtain ⟨h7, h⟩ | ⟨-, h⟩ := ite_eq_iff.mp h
  · exact decodeOpMul_hasWord hop h7 h
  obtain ⟨h7, h⟩ | ⟨-, h⟩ := ite_eq_iff.mp h
  · exact decodeOpShAdd_hasWord hop h7 h
  obtain ⟨h7, h⟩ | ⟨-, h⟩ := ite_eq_iff.mp h
  · exact decodeOpMinMax_hasWord hop h7 h
  obtain ⟨h7, h⟩ | ⟨-, h⟩ := ite_eq_iff.mp h
  · exact decodeOpRotate_hasWord hop h7 h
  obtain ⟨h7, h⟩ | ⟨-, h⟩ := ite_eq_iff.mp h
  · exact decodeOpBclr_hasWord hop h7 h
  obtain ⟨h7, h⟩ | ⟨-, h⟩ := ite_eq_iff.mp h
  · exact decodeOpBinv_hasWord hop h7 h
  obtain ⟨h7, h⟩ | ⟨-, h⟩ := ite_eq_iff.mp h
  · exact decodeOpBset_hasWord hop h7 h
  obtain ⟨h7, h⟩ | ⟨-, h⟩ := ite_eq_iff.mp h
  · exact decodeOpPack_hasWord hop h7 h
  cases h

theorem decodeAmo_hasWord (hop : opcode w = 0b0101111) (h : decodeAmo w = .ok i) : HasWord i w := by
  unfold decodeAmo at h
  obtain ⟨-, h⟩ | ⟨h3, h⟩ := ite_eq_iff.mp h
  · cases h
  rw [not_not] at h3
  obtain ⟨h5, h⟩ | ⟨-, h⟩ := ite_eq_iff.mp h
  · obtain ⟨h2, h⟩ | ⟨-, h⟩ := ite_eq_iff.mp h
    · cases h; exact ⟨rfl, congrArg Code.word (encodeAtomic_of_fields h3 h5 h2 hop), rfl⟩
    cases h
  iterate 10
    obtain ⟨h5, h⟩ | ⟨-, h⟩ := ite_eq_iff.mp h
    · cases h; exact ⟨rfl, congrArg Code.word (encodeAtomic_of_fields h3 h5 rfl hop), rfl⟩
  cases h

/-- A `fence` word is put together from its three fields, and is not that of `fence.tso` (30 R135). -/
theorem encodeI_fence_of_fields (h3 : funct3 w = 0b000) (hop : opcode w = 0b0001111) :
    encodeI (fmField w ++ predField w ++ succField w) (rs1Field w) 0b000 (rdField w) 0b0001111 = w := by
  have himm : fmField w ++ predField w ++ succField w = immI w := by
    simp (disch := rfl) only [fmField, predField, succField, extractLsb'_append_extractLsb'_eq_extractLsb',
      BitVec.extractLsb'_eq_self]
  rw [himm]
  exact encodeI_of_fields h3 hop

theorem decodeMiscMem_hasWord (hop : opcode w = 0b0001111) (h : decodeMiscMem w = .ok i) : HasWord i w := by
  unfold decodeMiscMem at h
  obtain ⟨h3, h⟩ | ⟨-, h⟩ := ite_eq_iff.mp h
  · obtain ⟨hw, h⟩ | ⟨hw, h⟩ := ite_eq_iff.mp h
    · cases h; exact ⟨rfl, congrArg Code.word hw.symm, rfl⟩
    · cases h
      have hword := encodeI_fence_of_fields h3 hop
      refine ⟨?_, congrArg Code.word hword, rfl⟩
      cases hf : isFenceTso (fmField w) (predField w) (succField w) (rs1Field w) (rdField w) with
      | false => simp [Instr.wf, hf]
      | true =>
        simp only [isFenceTso, Bool.and_eq_true, beq_iff_eq] at hf
        obtain ⟨⟨⟨⟨hfm, hpred⟩, hsucc⟩, hrs1⟩, hrd⟩ := hf
        rw [hfm, hpred, hsucc, hrs1, hrd] at hword
        exact absurd hword.symm hw
  obtain ⟨h3, h⟩ | ⟨-, h⟩ := ite_eq_iff.mp h
  · cases h; exact ⟨rfl, congrArg Code.word (encodeI_of_fields h3 hop), rfl⟩
  cases h

theorem decodeSystem_hasWord (hop : opcode w = 0b1110011) (h : decodeSystem w = .ok i) : HasWord i w := by
  unfold decodeSystem at h
  iterate 6
    obtain ⟨h3, h⟩ | ⟨-, h⟩ := ite_eq_iff.mp h
    · cases h; exact ⟨rfl, congrArg Code.word (encodeI_of_fields h3 hop), rfl⟩
  iterate 4
    obtain ⟨hw, h⟩ | ⟨-, h⟩ := ite_eq_iff.mp h
    · cases h; exact ⟨rfl, congrArg Code.word hw.symm, rfl⟩
  cases h

theorem decode32_hasWord (h : decode32 w = .ok i) : HasWord i w := by
  unfold decode32 at h
  obtain ⟨hop, h⟩ | ⟨-, h⟩ := ite_eq_iff.mp h
  · exact decodeLoad_hasWord hop h
  obtain ⟨hop, h⟩ | ⟨-, h⟩ := ite_eq_iff.mp h
  · exact decodeMiscMem_hasWord hop h
  obtain ⟨hop, h⟩ | ⟨-, h⟩ := ite_eq_iff.mp h
  · exact decodeOpImm_hasWord hop h
  obtain ⟨hop, h⟩ | ⟨-, h⟩ := ite_eq_iff.mp h
  · cases h; exact ⟨rfl, congrArg Code.word (encodeU_of_fields hop), rfl⟩
  obtain ⟨hop, h⟩ | ⟨-, h⟩ := ite_eq_iff.mp h
  · exact decodeStore_hasWord hop h
  obtain ⟨hop, h⟩ | ⟨-, h⟩ := ite_eq_iff.mp h
  · exact decodeAmo_hasWord hop h
  obtain ⟨hop, h⟩ | ⟨-, h⟩ := ite_eq_iff.mp h
  · exact decodeOp_hasWord hop h
  obtain ⟨hop, h⟩ | ⟨-, h⟩ := ite_eq_iff.mp h
  · cases h; exact ⟨rfl, congrArg Code.word (encodeU_of_fields hop), rfl⟩
  obtain ⟨hop, h⟩ | ⟨-, h⟩ := ite_eq_iff.mp h
  · exact decodeBranch_hasWord hop h
  obtain ⟨hop, h⟩ | ⟨-, h⟩ := ite_eq_iff.mp h
  · exact decodeJalr_hasWord hop h
  obtain ⟨hop, h⟩ | ⟨-, h⟩ := ite_eq_iff.mp h
  · cases h
    exact ⟨isEven_offsetJ w, congrArg Code.word ((encodeJ_offsetJ ..).trans (mkWord_of_fields rfl rfl rfl rfl rfl hop)), rfl⟩
  obtain ⟨hop, h⟩ | ⟨-, h⟩ := ite_eq_iff.mp h
  · exact decodeSystem_hasWord hop h
  cases h

end

end Sys2Proof.Machine
end

section
/-!
PROOF. Encoding undoes decoding for the 16-bit instructions (30 R124 to R130), and with it `EncodeOfDecode`.
-/

namespace Sys2Proof.Machine

open BitVec (extractLsb'_append_eq_left extractLsb'_append_eq_right extractLsb'_append_eq_of_le extractLsb'_append_eq_of_add_le
  extractLsb'_append_extractLsb'_eq_extractLsb')

/-! ### A 16-bit word from its fields -/

section
variable {h : Half} {f3 : BitVec 3} {b12 : BitVec 1} {f2 : BitVec 2} {r97 : BitVec 3} {b65 : BitVec 2} {r42 : BitVec 3}
  {q : BitVec 2}

theorem mkHalf_of_fields (h3 : cFunct3 h = f3) (h12 : cBit12 h = b12) (h2 : cFunct2 h = f2) (h97 : cReg97 h = r97)
    (h65 : cBits65 h = b65) (h42 : cReg42 h = r42) (hq : quadrant h = q) : mkHalf f3 b12 f2 r97 b65 r42 q = h := by
  subst h3 h12 h2 h97 h65 h42 hq
  simp (disch := rfl) only [mkHalf, cFunct3, cBit12, cFunct2, cReg97, cBits65, cReg42, quadrant,
    extractLsb'_append_extractLsb'_eq_extractLsb', BitVec.extractLsb'_eq_self]

/-- The two parts of a value that was put together from two fields are those fields. -/
theorem parts_eq {n m : Nat} {a : BitVec n} {b : BitVec m} {x : BitVec (n + m)} (hx : a ++ b = x) :
    a = x.extractLsb' m n ∧ b = x.extractLsb' 0 m := by
  subst hx
  exact ⟨extractLsb'_append_eq_left.symm, extractLsb'_append_eq_right.symm⟩

theorem encodeCR_of_fields {rd rs2 : RegIdx} (h3 : cFunct3 h = f3) (h12 : cBit12 h = b12) (hrd : cRd h = rd)
    (hrs2 : cLow5 h = rs2) (hq : quadrant h = 0b10) : encodeCR f3 b12 rd rs2 = h := by
  obtain ⟨h2, h97⟩ := parts_eq hrd
  obtain ⟨h65, h42⟩ := parts_eq hrs2
  exact mkHalf_of_fields h3 h12 h2 h97 h65 h42 hq

theorem encodeCI_of_fields {imm : BitVec 6} {rd : RegIdx} (h3 : cFunct3 h = f3) (himm : cBit12 h ++ cLow5 h = imm)
    (hrd : cRd h = rd) (hq : quadrant h = q) : encodeCI f3 imm rd q = h := by
  obtain ⟨h2, h97⟩ := parts_eq hrd
  subst himm
  simp (disch := decide) only [encodeCI, cLow5, extractLsb'_append_eq_of_le, extractLsb'_append_eq_of_add_le]
  simp only [Nat.reduceAdd, Nat.reduceSub, BitVec.extractLsb'_eq_self]
  exact mkHalf_of_fields h3 rfl h2 h97 rfl rfl hq

theorem encodeCWord_of_fields (h3 : cFunct3 h = f3) (hq : quadrant h = 0b00) :
    encodeCWord f3 (cUimmWord h) (cReg97 h) (cReg42 h) = h := by
  simp (disch := decide) only [encodeCWord, cUimmWord, extractLsb'_append_eq_of_le, extractLsb'_append_eq_of_add_le]
  simp (disch := rfl) only [Nat.reduceSub, BitVec.extractLsb'_eq_self, extractLsb'_append_extractLsb'_eq_extractLsb']
  exact mkHalf_of_fields h3 rfl rfl rfl rfl rfl hq

theorem encodeCJ_of_fields (h3 : cFunct3 h = f3) (hq : quadrant h = 0b01) : encodeCJ f3 (cOffsetJ h) = h := by
  simp (disch := decide) only [encodeCJ, cOffsetJ, extractLsb'_append_eq_of_le, extractLsb'_append_eq_of_add_le]
  simp (disch := rfl) only [Nat.reduceSub, BitVec.extractLsb'_eq_self, extractLsb'_append_extractLsb'_eq_extractLsb']
  exact mkHalf_of_fields h3 rfl rfl rfl rfl rfl hq

theorem encodeCB_of_fields (h3 : cFunct3 h = f3) (hq : quadrant h = 0b01) : encodeCB f3 (cOffsetB h) (cReg97 h) = h := by
  simp (disch := decide) only [encodeCB, cOffsetB, extractLsb'_append_eq_of_le, extractLsb'_append_eq_of_add_le]
  simp (disch := rfl) only [Nat.reduceSub, BitVec.extractLsb'_eq_self, extractLsb'_append_extractLsb'_eq_extractLsb']
  exact mkHalf_of_fields h3 rfl rfl rfl rfl rfl hq

theorem encodeCByte_of_fields (h3 : cFunct3 h = 0b100) (h12 : cBit12 h = 0) (h2 : cFunct2 h = f2) (hq : quadrant h = 0b00) :
    encodeCByte f2 (cUimmByte h) (cReg97 h) (cReg42 h) = h := by
  simp (disch := decide) only [encodeCByte, cUimmByte, extractLsb'_append_eq_of_le, extractLsb'_append_eq_of_add_le]
  simp (disch := rfl) only [Nat.reduceSub, BitVec.extractLsb'_eq_self, extractLsb'_append_extractLsb'_eq_extractLsb']
  exact mkHalf_of_fields h3 h12 h2 rfl rfl rfl hq

theorem encodeCHalf_of_fields {f1 : BitVec 1} (h3 : cFunct3 h = 0b100) (h12 : cBit12 h = 0) (h2 : cFunct2 h = f2)
    (h6 : (cBits65 h).extractLsb' 1 1 = f1) (hq : quadrant h = 0b00) :
    encodeCHalf f2 f1 (cUimmHalf h) (cReg97 h) (cReg42 h) = h := by
  subst h6
  simp (disch := decide) only [encodeCHalf, cUimmHalf, extractLsb'_append_eq_of_le]
  simp (disch := rfl) only [Nat.reduceSub, BitVec.extractLsb'_eq_self, extractLsb'_append_extractLsb'_eq_extractLsb']
  exact mkHalf_of_fields h3 h12 h2 rfl rfl rfl hq

theorem encodeCMPP_of_fields {b98 : BitVec 2} (h3 : cFunct3 h = 0b101) (h12 : cBit12 h = 1) (h2 : cFunct2 h = f2)
    (h98 : (cReg97 h).extractLsb' 1 2 = b98) (hq : quadrant h = 0b10) :
    encodeCMPP f2 b98 (cRlist h) (cSpimm h) = h := by
  subst h98
  simp (disch := decide) only [encodeCMPP, cRlist, cSpimm, extractLsb'_append_eq_of_le, extractLsb'_append_eq_of_add_le]
  simp (disch := rfl) only [Nat.reduceSub, BitVec.extractLsb'_eq_self, extractLsb'_append_extractLsb'_eq_extractLsb']
  exact mkHalf_of_fields h3 h12 h2 rfl rfl rfl hq

end

/-- A one-bit field that is not 1 is 0. -/
theorem eq_zero_of_ne_one {x : BitVec 1} (h : x ≠ 1) : x = 0 := by bv_omega

/-- A one-bit field that is not 0 is 1. -/
theorem eq_one_of_ne_zero {x : BitVec 1} (h : x ≠ 0) : x = 1 := by bv_omega

theorem eq_three_of_ne {x : BitVec 2} (h0 : x ≠ 0) (h1 : x ≠ 1) (h2 : x ≠ 2) : x = 3 := by bv_omega

/-! ### What a 16-bit word decodes to -/

/-- The instruction is well-formed and the halfword is its code. -/
def HasHalf (i : Instr) (h : Half) : Prop := i.wf = true ∧ encode i = .half h ∧ i.length = 2

section
variable {h : Half} {i : Instr}

theorem decodeZcbMem_hasHalf (hq : quadrant h = 0b00) (h3 : cFunct3 h = 0b100) (hi : decodeZcbMem h = .ok i) : HasHalf i h := by
  unfold decodeZcbMem at hi
  obtain ⟨-, hi⟩ | ⟨h12, hi⟩ := ite_eq_iff.mp hi
  · cases hi
  have h12 := eq_zero_of_ne_one h12
  obtain ⟨h2, hi⟩ | ⟨h20, hi⟩ := ite_eq_iff.mp hi
  · cases hi; exact ⟨rfl, congrArg Code.half (encodeCByte_of_fields h3 h12 h2 hq), rfl⟩
  obtain ⟨h2, hi⟩ | ⟨h21, hi⟩ := ite_eq_iff.mp hi
  · obtain ⟨h6, hi⟩ | ⟨h6, hi⟩ := ite_eq_iff.mp hi
    · cases hi; exact ⟨isEven_iff.mpr extractLsb'_append_eq_right, congrArg Code.half (encodeCHalf_of_fields h3 h12 h2 h6 hq), rfl⟩
    · have h6 := eq_one_of_ne_zero h6
      cases hi; exact ⟨isEven_iff.mpr extractLsb'_append_eq_right, congrArg Code.half (encodeCHalf_of_fields h3 h12 h2 h6 hq), rfl⟩
  obtain ⟨h2, hi⟩ | ⟨h22, hi⟩ := ite_eq_iff.mp hi
  · cases hi; exact ⟨rfl, congrArg Code.half (encodeCByte_of_fields h3 h12 h2 hq), rfl⟩
  obtain ⟨h6, hi⟩ | ⟨-, hi⟩ := ite_eq_iff.mp hi
  · cases hi
    exact ⟨isEven_iff.mpr extractLsb'_append_eq_right,
      congrArg Code.half (encodeCHalf_of_fields h3 h12 (eq_three_of_ne h20 h21 h22) h6 hq), rfl⟩
  cases hi

theorem cAddi4spn_hasHalf (hq : quadrant h = 0b00) (h3 : cFunct3 h = 0b000) (himm : cUimmAddi4spn h ≠ 0) :
    HasHalf (.cAddi4spn (cReg42 h) (cUimmAddi4spn h)) h := by
  have hmul : isMultipleOf4 (cUimmAddi4spn h) = true := isMultipleOf4_iff.mpr extractLsb'_append_eq_right
  refine ⟨Bool.and_eq_true_iff.mpr ⟨hmul, bne_iff_ne.mpr himm⟩, congrArg Code.half ?_, rfl⟩
  simp (disch := decide) only [cUimmAddi4spn, extractLsb'_append_eq_of_le, extractLsb'_append_eq_of_add_le]
  simp (disch := rfl) only [Nat.reduceSub, BitVec.extractLsb'_eq_self, extractLsb'_append_extractLsb'_eq_extractLsb']
  exact mkHalf_of_fields h3 rfl rfl rfl rfl rfl hq

theorem decodeQuadrant0_hasHalf (hq : quadrant h = 0b00) (hi : decodeQuadrant0 h = .ok i) : HasHalf i h := by
  unfold decodeQuadrant0 at hi
  obtain ⟨-, hi⟩ | ⟨-, hi⟩ := ite_eq_iff.mp hi
  · cases hi
  obtain ⟨h3, hi⟩ | ⟨-, hi⟩ := ite_eq_iff.mp hi
  · obtain ⟨-, hi⟩ | ⟨himm, hi⟩ := ite_eq_iff.mp hi
    · cases hi
    · cases hi; exact cAddi4spn_hasHalf hq h3 himm
  obtain ⟨h3, hi⟩ | ⟨-, hi⟩ := ite_eq_iff.mp hi
  · cases hi; exact ⟨isMultipleOf4_iff.mpr extractLsb'_append_eq_right, congrArg Code.half (encodeCWord_of_fields h3 hq), rfl⟩
  obtain ⟨h3, hi⟩ | ⟨-, hi⟩ := ite_eq_iff.mp hi
  · exact decodeZcbMem_hasHalf hq h3 hi
  obtain ⟨h3, hi⟩ | ⟨-, hi⟩ := ite_eq_iff.mp hi
  · cases hi; exact ⟨isMultipleOf4_iff.mpr extractLsb'_append_eq_right, congrArg Code.half (encodeCWord_of_fields h3 hq), rfl⟩
  cases hi

theorem decodeZcbUnary_hasHalf (hq : quadrant h = 0b01) (h3 : cFunct3 h = 0b100) (h12 : cBit12 h = 1)
    (h2 : cFunct2 h = 0b11) (h65 : cBits65 h = 0b11) (hi : decodeZcbUnary h = .ok i) : HasHalf i h := by
  unfold decodeZcbUnary at hi
  iterate 5
    obtain ⟨h42, hi⟩ | ⟨-, hi⟩ := ite_eq_iff.mp hi
    · cases hi; exact ⟨rfl, congrArg Code.half (mkHalf_of_fields h3 h12 h2 rfl h65 h42 hq), rfl⟩
  cases hi

theorem cAndi_hasHalf (hq : quadrant h = 0b01) (h3 : cFunct3 h = 0b100) (h2 : cFunct2 h = 0b10) :
    HasHalf (.cAndi (cReg97 h) (cImm6 h)) h := by
  refine ⟨rfl, congrArg Code.half ?_, rfl⟩
  simp (disch := decide) only [cImm6, cLow5, extractLsb'_append_eq_of_le, extractLsb'_append_eq_of_add_le]
  simp only [Nat.reduceAdd, Nat.reduceSub, BitVec.extractLsb'_eq_self]
  exact mkHalf_of_fields h3 rfl h2 rfl rfl rfl hq

theorem decodeQuadrant1Alu_hasHalf (hq : quadrant h = 0b01) (h3 : cFunct3 h = 0b100) (hi : decodeQuadrant1Alu h = .ok i) :
    HasHalf i h := by
  unfold decodeQuadrant1Alu at hi
  obtain ⟨h2, hi⟩ | ⟨h20, hi⟩ := ite_eq_iff.mp hi
  · obtain ⟨h12, hi⟩ | ⟨-, hi⟩ := ite_eq_iff.mp hi
    · cases hi; exact ⟨rfl, congrArg Code.half (mkHalf_of_fields h3 h12 h2 rfl (parts_eq rfl).1 (parts_eq rfl).2 hq), rfl⟩
    · cases hi
  obtain ⟨h2, hi⟩ | ⟨h21, hi⟩ := ite_eq_iff.mp hi
  · obtain ⟨h12, hi⟩ | ⟨-, hi⟩ := ite_eq_iff.mp hi
    · cases hi; exact ⟨rfl, congrArg Code.half (mkHalf_of_fields h3 h12 h2 rfl (parts_eq rfl).1 (parts_eq rfl).2 hq), rfl⟩
    · cases hi
  obtain ⟨h2, hi⟩ | ⟨h22, hi⟩ := ite_eq_iff.mp hi
  · cases hi; exact cAndi_hasHalf hq h3 h2
  have h2 := eq_three_of_ne h20 h21 h22
  obtain ⟨h12, hi⟩ | ⟨h12, hi⟩ := ite_eq_iff.mp hi
  · obtain ⟨h65, hi⟩ | ⟨h650, hi⟩ := ite_eq_iff.mp hi
    · cases hi; exact ⟨rfl, congrArg Code.half (mkHalf_of_fields h3 h12 h2 rfl h65 rfl hq), rfl⟩
    obtain ⟨h65, hi⟩ | ⟨h651, hi⟩ := ite_eq_iff.mp hi
    · cases hi; exact ⟨rfl, congrArg Code.half (mkHalf_of_fields h3 h12 h2 rfl h65 rfl hq), rfl⟩
    obtain ⟨h65, hi⟩ | ⟨h652, hi⟩ := ite_eq_iff.mp hi
    · cases hi; exact ⟨rfl, congrArg Code.half (mkHalf_of_fields h3 h12 h2 rfl h65 rfl hq), rfl⟩
    have h65 := eq_three_of_ne h650 h651 h652
    cases hi; exact ⟨rfl, congrArg Code.half (mkHalf_of_fields h3 h12 h2 rfl h65 rfl hq), rfl⟩
  have h12 := eq_one_of_ne_zero h12
  obtain ⟨h65, hi⟩ | ⟨-, hi⟩ := ite_eq_iff.mp hi
  · cases hi; exact ⟨rfl, congrArg Code.half (mkHalf_of_fields h3 h12 h2 rfl h65 rfl hq), rfl⟩
  obtain ⟨h65, hi⟩ | ⟨-, hi⟩ := ite_eq_iff.mp hi
  · exact decodeZcbUnary_hasHalf hq h3 h12 h2 h65 hi
  cases hi

theorem cAddi16sp_hasHalf (hq : quadrant h = 0b01) (h3 : cFunct3 h = 0b011) (himm : cImm6 h ≠ 0) (hrd : cRd h = 2) :
    HasHalf (.cAddi16sp (cImmAddi16sp h)) h := by
  have hmul : isMultipleOf16 (cImmAddi16sp h) = true := isMultipleOf16_iff.mpr extractLsb'_append_eq_right
  have hne : cImmAddi16sp h ≠ 0 := fun h0 => himm (cImmAddi16sp_eq_zero_iff.mp h0)
  obtain ⟨h2, h97⟩ := parts_eq hrd
  refine ⟨Bool.and_eq_true_iff.mpr ⟨hmul, bne_iff_ne.mpr hne⟩, congrArg Code.half ?_, rfl⟩
  simp (disch := decide) only [cImmAddi16sp, extractLsb'_append_eq_of_le, extractLsb'_append_eq_of_add_le]
  simp (disch := rfl) only [Nat.reduceSub, BitVec.extractLsb'_eq_self, extractLsb'_append_extractLsb'_eq_extractLsb']
  exact mkHalf_of_fields h3 rfl h2 h97 rfl rfl hq

theorem decodeQuadrant1_hasHalf (hq : quadrant h = 0b01) (hi : decodeQuadrant1 h = .ok i) : HasHalf i h := by
  unfold decodeQuadrant1 at hi
  obtain ⟨h3, hi⟩ | ⟨h0, hi⟩ := ite_eq_iff.mp hi
  · obtain ⟨hrd, hi⟩ | ⟨hrd, hi⟩ := ite_eq_iff.mp hi
    · cases hi; exact ⟨rfl, congrArg Code.half (encodeCI_of_fields h3 rfl hrd hq), rfl⟩
    · cases hi; exact ⟨bne_iff_ne.mpr hrd, congrArg Code.half (encodeCI_of_fields h3 rfl rfl hq), rfl⟩
  obtain ⟨h3, hi⟩ | ⟨h1, hi⟩ := ite_eq_iff.mp hi
  · cases hi; exact ⟨isEven_iff.mpr extractLsb'_append_eq_right, congrArg Code.half (encodeCJ_of_fields h3 hq), rfl⟩
  obtain ⟨h3, hi⟩ | ⟨h2, hi⟩ := ite_eq_iff.mp hi
  · cases hi; exact ⟨rfl, congrArg Code.half (encodeCI_of_fields h3 rfl rfl hq), rfl⟩
  obtain ⟨h3, hi⟩ | ⟨h3, hi⟩ := ite_eq_iff.mp hi
  · obtain ⟨-, hi⟩ | ⟨himm, hi⟩ := ite_eq_iff.mp hi
    · cases hi
    obtain ⟨hrd, hi⟩ | ⟨hrd, hi⟩ := ite_eq_iff.mp hi
    · cases hi; exact cAddi16sp_hasHalf hq h3 himm hrd
    · cases hi
      exact ⟨Bool.and_eq_true_iff.mpr ⟨bne_iff_ne.mpr hrd, bne_iff_ne.mpr himm⟩,
        congrArg Code.half (encodeCI_of_fields h3 rfl rfl hq), rfl⟩
  obtain ⟨h4, hi⟩ | ⟨h4, hi⟩ := ite_eq_iff.mp hi
  · exact decodeQuadrant1Alu_hasHalf hq h4 hi
  obtain ⟨h5, hi⟩ | ⟨h5, hi⟩ := ite_eq_iff.mp hi
  · cases hi; exact ⟨isEven_iff.mpr extractLsb'_append_eq_right, congrArg Code.half (encodeCJ_of_fields h5 hq), rfl⟩
  obtain ⟨h6, hi⟩ | ⟨h6, hi⟩ := ite_eq_iff.mp hi
  · cases hi; exact ⟨isEven_iff.mpr extractLsb'_append_eq_right, congrArg Code.half (encodeCB_of_fields h6 hq), rfl⟩
  have h7 : cFunct3 h = 7 := by bv_omega
  cases hi; exact ⟨isEven_iff.mpr extractLsb'_append_eq_right, congrArg Code.half (encodeCB_of_fields h7 hq), rfl⟩

theorem decodeQuadrant2Cr_hasHalf (hq : quadrant h = 0b10) (h3 : cFunct3 h = 0b100) (hi : decodeQuadrant2Cr h = .ok i) :
    HasHalf i h := by
  unfold decodeQuadrant2Cr at hi
  obtain ⟨h12, hi⟩ | ⟨h12, hi⟩ := ite_eq_iff.mp hi
  · obtain ⟨hrs2, hi⟩ | ⟨hrs2, hi⟩ := ite_eq_iff.mp hi
    · obtain ⟨-, hi⟩ | ⟨hrd, hi⟩ := ite_eq_iff.mp hi
      · cases hi
      · cases hi; exact ⟨bne_iff_ne.mpr hrd, congrArg Code.half (encodeCR_of_fields h3 h12 rfl hrs2 hq), rfl⟩
    · cases hi; exact ⟨bne_iff_ne.mpr hrs2, congrArg Code.half (encodeCR_of_fields h3 h12 rfl rfl hq), rfl⟩
  have h12 := eq_one_of_ne_zero h12
  obtain ⟨hrs2, hi⟩ | ⟨hrs2, hi⟩ := ite_eq_iff.mp hi
  · obtain ⟨hrd, hi⟩ | ⟨hrd, hi⟩ := ite_eq_iff.mp hi
    · cases hi; exact ⟨rfl, congrArg Code.half (encodeCR_of_fields h3 h12 hrd hrs2 hq), rfl⟩
    · cases hi; exact ⟨bne_iff_ne.mpr hrd, congrArg Code.half (encodeCR_of_fields h3 h12 rfl hrs2 hq), rfl⟩
  cases hi; exact ⟨bne_iff_ne.mpr hrs2, congrArg Code.half (encodeCR_of_fields h3 h12 rfl rfl hq), rfl⟩

theorem decodeZcmp_hasHalf (hq : quadrant h = 0b10) (h3 : cFunct3 h = 0b101) (hi : decodeZcmp h = .ok i) : HasHalf i h := by
  unfold decodeZcmp at hi
  obtain ⟨h12, hi⟩ | ⟨h12, hi⟩ := ite_eq_iff.mp hi
  · obtain ⟨h2, hi⟩ | ⟨-, hi⟩ := ite_eq_iff.mp hi
    · obtain ⟨h65, hi⟩ | ⟨-, hi⟩ := ite_eq_iff.mp hi
      · obtain ⟨-, hi⟩ | ⟨hne, hi⟩ := ite_eq_iff.mp hi
        · cases hi
        · cases hi; exact ⟨bne_iff_ne.mpr hne, congrArg Code.half (mkHalf_of_fields h3 h12 h2 rfl h65 rfl hq), rfl⟩
      obtain ⟨h65, hi⟩ | ⟨-, hi⟩ := ite_eq_iff.mp hi
      · cases hi; exact ⟨rfl, congrArg Code.half (mkHalf_of_fields h3 h12 h2 rfl h65 rfl hq), rfl⟩
      cases hi
    cases hi
  have h12 := eq_one_of_ne_zero h12
  iterate 2
    obtain ⟨h2, hi⟩ | ⟨-, hi⟩ := ite_eq_iff.mp hi
    · iterate 2
        obtain ⟨h98, hi⟩ | ⟨-, hi⟩ := ite_eq_iff.mp hi
        · obtain ⟨hlist, hi⟩ | ⟨-, hi⟩ := ite_eq_iff.mp hi
          · cases hi; exact ⟨hlist, congrArg Code.half (encodeCMPP_of_fields h3 h12 h2 h98 hq), rfl⟩
          cases hi
      cases hi
  cases hi

theorem cLwsp_hasHalf (hq : quadrant h = 0b10) (h3 : cFunct3 h = 0b010) (hrd : cRd h ≠ 0) :
    HasHalf (.cLwsp (cRd h) (cUimmLwsp h)) h := by
  have hmul : isMultipleOf4 (cUimmLwsp h) = true := isMultipleOf4_iff.mpr extractLsb'_append_eq_right
  refine ⟨Bool.and_eq_true_iff.mpr ⟨bne_iff_ne.mpr hrd, hmul⟩, congrArg Code.half ?_, rfl⟩
  simp (disch := decide) only [cRd, cUimmLwsp, extractLsb'_append_eq_of_le, extractLsb'_append_eq_of_add_le]
  simp (disch := rfl) only [Nat.reduceSub, BitVec.extractLsb'_eq_self, extractLsb'_append_extractLsb'_eq_extractLsb']
  exact mkHalf_of_fields h3 rfl rfl rfl rfl rfl hq

theorem cSwsp_hasHalf (hq : quadrant h = 0b10) (h3 : cFunct3 h = 0b110) : HasHalf (.cSwsp (cLow5 h) (cUimmSwsp h)) h := by
  refine ⟨isMultipleOf4_iff.mpr extractLsb'_append_eq_right, congrArg Code.half ?_, rfl⟩
  simp (disch := decide) only [cLow5, cUimmSwsp, extractLsb'_append_eq_of_le, extractLsb'_append_eq_of_add_le]
  simp (disch := rfl) only [Nat.reduceSub, BitVec.extractLsb'_eq_self, extractLsb'_append_extractLsb'_eq_extractLsb']
  exact mkHalf_of_fields h3 rfl rfl rfl rfl rfl hq

theorem decodeQuadrant2_hasHalf (hq : quadrant h = 0b10) (hi : decodeQuadrant2 h = .ok i) : HasHalf i h := by
  unfold decodeQuadrant2 at hi
  obtain ⟨h3, hi⟩ | ⟨-, hi⟩ := ite_eq_iff.mp hi
  · obtain ⟨h12, hi⟩ | ⟨-, hi⟩ := ite_eq_iff.mp hi
    · cases hi; exact ⟨rfl, congrArg Code.half (encodeCI_of_fields h3 (congrArg (· ++ cLow5 h) h12) rfl hq), rfl⟩
    cases hi
  obtain ⟨h3, hi⟩ | ⟨-, hi⟩ := ite_eq_iff.mp hi
  · obtain ⟨-, hi⟩ | ⟨hrd, hi⟩ := ite_eq_iff.mp hi
    · cases hi
    · cases hi; exact cLwsp_hasHalf hq h3 hrd
  obtain ⟨h3, hi⟩ | ⟨-, hi⟩ := ite_eq_iff.mp hi
  · exact decodeQuadrant2Cr_hasHalf hq h3 hi
  obtain ⟨h3, hi⟩ | ⟨-, hi⟩ := ite_eq_iff.mp hi
  · exact decodeZcmp_hasHalf hq h3 hi
  obtain ⟨h3, hi⟩ | ⟨-, hi⟩ := ite_eq_iff.mp hi
  · cases hi; exact cSwsp_hasHalf hq h3
  cases hi

theorem decode16_hasHalf (hi : decode16 h = .ok i) : HasHalf i h := by
  unfold decode16 at hi
  obtain ⟨hq, hi⟩ | ⟨-, hi⟩ := ite_eq_iff.mp hi
  · exact decodeQuadrant0_hasHalf hq hi
  obtain ⟨hq, hi⟩ | ⟨-, hi⟩ := ite_eq_iff.mp hi
  · exact decodeQuadrant1_hasHalf hq hi
  obtain ⟨hq, hi⟩ | ⟨-, hi⟩ := ite_eq_iff.mp hi
  · exact decodeQuadrant2_hasHalf hq hi
  cases hi

end

/-! ### The obligation -/

/-- Settles O3: the two lengths of a code, each put together again from its fields. -/
theorem encodeOfDecode : Obligations.EncodeOfDecode := by
  intro c i h
  cases c with
  | half p => exact decode16_hasHalf h
  | word w =>
    obtain ⟨-, h⟩ | ⟨-, h⟩ := ite_eq_iff.mp h
    · exact decode32_hasWord h
    · cases h

/-- What decoding gives is well-formed (30 R121 to R130). -/
theorem wf_of_decode {c : Code} {i : Instr} (h : decode c = .ok i) : i.wf = true := (encodeOfDecode c i h).1

end Sys2Proof.Machine
end

section
/-!
PROOF. The reserved encodings (30 R132): the fields of each word are read back from it, and the decoder's choices on them end in a
rejection. And the spec's example words.
-/

namespace Sys2Proof.Machine

/-! ### Reserved 16-bit words -/

theorem cAddi4spn_zero_rejected (rd : CReg) : Rejected (.half (mkHalf 0b000 0 0 0 0 rd 0b00)) := by
  have himm : cUimmAddi4spn (mkHalf 0b000 0 0 0 0 rd 0b00) = 0 := by simp [cUimmAddi4spn]
  simp only [Rejected, decode, decode16, decodeQuadrant0, quadrant_mkHalf, cFunct3_mkHalf, himm, if_true]
  split <;> exact ⟨_, rfl⟩

theorem cLui_zero_rejected (rd : RegIdx) : Rejected (.half (encodeCI 0b011 0 rd 0b01)) :=
  ⟨.reservedOperand, by simp [decode, decode16, decodeQuadrant1]⟩

theorem cLwsp_zero_rejected (imm : BitVec 6) : Rejected (.half (encodeCI 0b010 imm 0 0b10)) :=
  ⟨.reservedOperand, by simp [decode, decode16, decodeQuadrant2]⟩

theorem cSlli_high_rejected (rd : RegIdx) (n : BitVec 5) : Rejected (.half (encodeCI 0b000 (1#1 ++ n) rd 0b10)) := by
  have h12 : (1#1 ++ n).extractLsb' 5 1 = 1#1 := BitVec.extractLsb'_append_eq_left
  exact ⟨.reservedOperand, by simp [decode, decode16, decodeQuadrant2, h12]⟩

theorem cShift_high_rejected (rd : CReg) (b65 : BitVec 2) (r42 : BitVec 3) :
    Rejected (.half (mkHalf 0b100 1 0b00 rd b65 r42 0b01)) ∧ Rejected (.half (mkHalf 0b100 1 0b01 rd b65 r42 0b01)) :=
  ⟨⟨.reservedOperand, by simp [decode, decode16, decodeQuadrant1, decodeQuadrant1Alu]⟩,
    ⟨.reservedOperand, by simp [decode, decode16, decodeQuadrant1, decodeQuadrant1Alu]⟩⟩

theorem cmMvsa01_same_rejected (r : SReg) : Rejected (.half (mkHalf 0b101 0 0b11 r 0b01 r 0b10)) :=
  ⟨.reservedOperand, by simp [decode, decode16, decodeQuadrant2, decodeZcmp]⟩

theorem cSh_high_rejected (rs1 rs2 : CReg) (uimm : BitVec 2) : Rejected (.half (encodeCHalf 0b11 1 uimm rs1 rs2)) := by
  have h6 : (1#1 ++ uimm.extractLsb' 1 1).extractLsb' 1 1 = 1#1 := BitVec.extractLsb'_append_eq_left
  exact ⟨.reservedOperand, by simp [encodeCHalf, decode, decode16, decodeQuadrant0, decodeZcbMem, ne_zero_of_cFunct3, h6]⟩

/-! ### Reserved 32-bit words -/

/-- The funct7 values of shifts by a constant and of the unary forms have bit 25 of the word at 0 (30 R132). -/
theorem opImm_bit25_rejected {f7 : BitVec 7} (h : f7.getLsbD 0 = true) (shamt rs1 rd : RegIdx) :
    Rejected (.word (mkWord f7 shamt rs1 0b001 rd 0b0010011)) ∧ Rejected (.word (mkWord f7 shamt rs1 0b101 rd 0b0010011)) := by
  have hne (x : BitVec 7) (hx : x.getLsbD 0 = false) : f7 ≠ x := by
    rintro rfl
    rw [h] at hx
    cases hx
  have h1 := hne 0b0000000 rfl
  have h2 := hne 0b0010100 rfl
  have h3 := hne 0b0100100 rfl
  have h4 := hne 0b0110100 rfl
  have h5 := hne 0b0110000 rfl
  have h6 := hne 0b0000100 rfl
  have h7 := hne 0b0100000 rfl
  exact ⟨⟨.function, by simp_all [decode, decode32, decodeOpImm, decodeOpImm1]⟩,
    ⟨.function, by simp_all [decode, decode32, decodeOpImm, decodeOpImm5]⟩⟩

theorem lrW_rs2_rejected (aq rl : Bool) {rs2 : RegIdx} (h : rs2 ≠ 0#5) (rs1 rd : RegIdx) :
    Rejected (.word (encodeAtomic 0b00010 aq rl rs2 rs1 rd)) :=
  ⟨.reservedOperand, by simp [decode, decode32, decodeAmo, h]⟩

/-! ### The obligations -/

/-- Settles O5: one lemma for each reserved encoding. -/
theorem reservedEncodingsRejected : Obligations.ReservedEncodingsRejected :=
  ⟨⟨_, rfl⟩, cAddi4spn_zero_rejected, cLui_zero_rejected, cLwsp_zero_rejected, ⟨_, rfl⟩, cSlli_high_rejected,
    cShift_high_rejected, fun f2 b98 _ spimm h _ => encodeCMPP_rejected f2 b98 h spimm, cmMvsa01_same_rejected,
    cSh_high_rejected, fun _ shamt rs1 rd h => opImm_bit25_rejected h shamt rs1 rd,
    fun aq rl _ rs1 rd h => lrW_rs2_rejected aq rl h rs1 rd⟩

/-- Settles O4: the decoder computes on fixed words. -/
theorem exampleWordsDecode : Obligations.ExampleWordsDecode :=
  ⟨rfl, rfl, rfl, rfl, rfl, rfl, rfl, rfl, rfl, rfl⟩

end Sys2Proof.Machine
end

section
/-!
PROOF. What a store does, said by bytes: the bytes of the value at the address and after it, in memory or taken by a device; what the
fetches of both harts may still see; and the reservation of the other hart (20 R83, R110, R111; 44 R259). The store of n bytes
is built up byte by byte.
-/

namespace Sys2Proof.Machine

/-! ### The bytes of a store -/

theorem storedByte_eq_none {a v : Word} {n x : Nat} (h : ¬ (a.toNat ≤ x ∧ x < a.toNat + n)) : storedByte a v n x = none :=
  if_neg h

theorem storedByte_eq_some {a v : Word} {n x k : Nat} (hx : x = a.toNat + k) (hk : k < n) :
    storedByte a v n x = some ((v >>> (8 * k)).setWidth 8) := by
  have hdiff : x - a.toNat = k := by omega
  rw [storedByte, if_pos (by omega), hdiff]

theorem storedByte_isSome {a v : Word} {n x : Nat} : (storedByte a v n x).isSome ↔ a.toNat ≤ x ∧ x < a.toNat + n := by
  unfold storedByte
  split <;> simp [*]

@[simp] theorem storedByte_zero (a v : Word) (x : Nat) : storedByte a v 0 x = none := storedByte_eq_none (by omega)

/-- One byte more: the new byte at its address, and the bytes before it. -/
theorem storedByte_succ (a v : Word) (k x : Nat) :
    storedByte a v (k + 1) x =
      if x = a.toNat + k then some ((v >>> (8 * k)).setWidth 8) else storedByte a v k x := by
  split
  · next hx => exact storedByte_eq_some hx (Nat.lt_succ_self k)
  · next hx => simp only [storedByte, show (a.toNat ≤ x ∧ x < a.toNat + (k + 1)) ↔ (a.toNat ≤ x ∧ x < a.toNat + k) by omega]

/-! ### Byte by byte -/

/-- The machine u is s after the first k bytes of v are written at a. -/
structure State.BytesWritten (s u : State) (device : Bool) (a v : Word) (k : Nat) : Prop where
  mem : ∀ x, u.mem.byteAt x = if device then s.mem.byteAt x else (storedByte a v k x).getD (s.mem.byteAt x)
  hartHeld : s.hart.remembers s (storedByte a v k) u.hart
  otherHeld : s.other.remembers s (storedByte a v k) u.other
  hart : u.hart = { s.hart with stale := u.hart.stale }
  other : u.other = { s.other with stale := u.other.stale }
  system : s.sameSystem u

section
variable {s u : State} {device : Bool} {a v : Word} {k : Nat}

theorem State.BytesWritten.zero (s : State) (device : Bool) (a v : Word) : s.BytesWritten s device a v 0 where
  mem x := by simp
  hartHeld x := by simp
  otherHeld x := by simp
  hart := rfl
  other := rfl
  system := ⟨rfl, rfl, rfl, rfl⟩

/-- The next byte is noted with the value that it still has. -/
theorem State.BytesWritten.remembers_noteStore (h : s.BytesWritten u device a v k) {b : Word} (hb : b.toNat = a.toNat + k)
    {g g' : Hart} (hg : g.remembers s (storedByte a v k) g') :
    g.remembers s (storedByte a v (k + 1)) (g'.noteStore b.toNat (u.mem.read8 b)) := by
  intro x
  rw [Hart.heldValues_noteStore, hg x, storedByte_succ, ← hb]
  by_cases hx : x = b.toNat
  · have hnone : storedByte a v k x = none := storedByte_eq_none (by omega)
    simp [← hx, Memory.read8, h.mem, hnone]
  · simp [hx, Ne.symm hx]

theorem State.BytesWritten.succ (h : s.BytesWritten u device a v k) {b : Word} (hb : b.toNat = a.toNat + k) {byte : Byte}
    (hbyte : byte = (v >>> (8 * k)).setWidth 8) : s.BytesWritten (u.storeByte device b byte) device a v (k + 1) where
  mem x := by
    rw [State.storeByte_mem]
    have hx := h.mem x
    cases device with
    | true => simpa using hx
    | false =>
      simp only [Bool.false_eq_true, if_false, Memory.byteAt_write, storedByte_succ, hb, hbyte] at hx ⊢
      split <;> simp [hx]
  hartHeld := h.remembers_noteStore hb h.hartHeld
  otherHeld := h.remembers_noteStore hb h.otherHeld
  hart := by rw [State.storeByte_hart, h.hart]; rfl
  other := by rw [State.storeByte_other, h.other]; rfl
  system := h.system

end

/-! ### Words and granules -/

theorem granule_eq_of_word_eq (p : Platform) {a x : Word} (h : x.toNat / 4 = a.toNat / 4) : p.granule x = p.granule a := by
  have hpow : 2 ^ (p.granuleBits + 2) = 4 * 2 ^ p.granuleBits := by rw [Nat.pow_add, Nat.mul_comm]
  rw [Platform.granule, Platform.granule, hpow, ← Nat.div_div_eq_div_mul, ← Nat.div_div_eq_div_mul, h]

theorem Hart.reservedAt_of_word_eq (p : Platform) (h : Hart) {a x : Word} (e : x.toNat / 4 = a.toNat / 4) :
    h.reservedAt p x = h.reservedAt p a := by
  unfold Hart.reservedAt
  rw [granule_eq_of_word_eq p e]

/-- The bytes of an aligned store lie in one word. -/
theorem word_eq_of_storedByte {a v : Word} {n x : Nat} (hn : n = 1 ∨ n = 2 ∨ n = 4) (ha : a.toNat % n = 0)
    (hx : (storedByte a v n x).isSome) : x / 4 = a.toNat / 4 := by
  rw [storedByte_isSome] at hx
  rcases hn with rfl | rfl | rfl <;> omega

/-! ### The stores -/

section
variable {s u : State} {device : Bool} {a v : Word}

/-- A hart after the loss of its reservation at a keeps a reservation of another granule. -/
theorem Hart.loseReservation_of_granule_ne {p : Platform} {h : Hart} {q : Word} (hq : h.reservation = some q)
    (hne : p.granule a ≠ p.granule q) : (h.loseReservation p a).reservation = some q := by
  have : h.reservedAt p a = false := by simpa [Hart.reservedAt, hq] using hne.symm
  rw [Hart.loseReservation_reservation, this, if_neg (by decide), hq]

theorem State.BytesWritten.storesInto {n : Nat} (h : s.BytesWritten u device a v n) (hn : n = 1 ∨ n = 2 ∨ n = 4)
    (ha : a.toNat % n = 0) : s.storesInto (u.endOtherReservation a) device (storedByte a v n) := by
  have hplat : u.plat = s.plat := h.system.1
  have hother := h.other
  have hown : (storedByte a v n a.toNat).isSome := by
    rw [storedByte_isSome]
    omega
  refine ⟨h.mem, h.hartHeld, fun x => ?held, fun q => ?regs, ?pc, ?minstret, ?control, ?monitor, ?reservation, ?lost, ?kept⟩
  case held => rw [State.endOtherReservation_other, Hart.heldValues_loseReservation]; exact h.otherHeld x
  case regs => rw [State.endOtherReservation_other, Hart.loseReservation_reg, hother]; rfl
  case pc => rw [State.endOtherReservation_other, Hart.loseReservation_pc, hother]
  case minstret => rw [State.endOtherReservation_other, Hart.loseReservation_minstret, hother]
  case control => rw [State.endOtherReservation_other, hother]; simp [Hart.sameControl]
  case monitor => rw [State.endOtherReservation_other, Hart.loseReservation_localMonitor, hother]
  case reservation =>
    rw [State.endOtherReservation_other, Hart.loseReservation_reservation, hother]
    split
    · exact .inr rfl
    · exact .inl rfl
  case lost =>
    intro x hx
    rw [Hart.reservedAt_of_word_eq s.plat _ (word_eq_of_storedByte hn ha hx), State.endOtherReservation_other, hplat]
    exact Hart.reservedAt_loseReservation s.plat u.other a
  case kept =>
    intro q hq hfar
    rw [State.endOtherReservation_other, hplat]
    refine Hart.loseReservation_of_granule_ne ?_ (hfar a hown)
    rw [hother]
    exact hq

end

/-- A byte of a word, as `storedByte` writes it. -/
theorem setWidth_ushiftRight_eq_extractLsb' {w : Nat} (v : BitVec w) (n len : Nat) : (v >>> n).setWidth len = v.extractLsb' n len := by
  ext i hi
  simp

/-- A byte of the low halfword is the same byte of the word. -/
theorem extractLsb'_lowHalf (v : Word) {n : Nat} (hn : n + 8 ≤ 16) :
    (v.extractLsb' 0 16).extractLsb' n 8 = v.extractLsb' n 8 := by
  ext i hi
  have : n + i < 16 := by omega
  simp [this]

section
variable (s : State) (a v : Word)

theorem State.store8_storesInto :
    s.storesInto (s.store8 a (v.extractLsb' 0 8)) (s.plat.isDevice a) (storedByte a v 1) := by
  have hbytes := (State.BytesWritten.zero s (s.plat.isDevice a) a v).succ (b := a) rfl rfl
  simp only [setWidth_ushiftRight_eq_extractLsb'] at hbytes
  exact hbytes.storesInto (.inl rfl) (Nat.mod_one _)

variable {a}

theorem State.store16_storesInto (ha : a.toNat % 2 = 0) :
    s.storesInto (s.store16 a (v.extractLsb' 0 16)) (s.plat.isDevice a) (storedByte a v 2) := by
  have hbytes := ((State.BytesWritten.zero s (s.plat.isDevice a) a v).succ (b := a) rfl rfl).succ
    (b := a + 1) (by bv_omega) rfl
  simp only [setWidth_ushiftRight_eq_extractLsb'] at hbytes
  have hinto := hbytes.storesInto (.inr (.inl rfl)) ha
  rwa [State.store16, extractLsb'_lowHalf v (by decide), extractLsb'_lowHalf v (by decide)]

theorem State.store32_storesInto (ha : a.toNat % 4 = 0) :
    s.storesInto (s.store32 a v) (s.plat.isDevice a) (storedByte a v 4) := by
  have hbytes := ((((State.BytesWritten.zero s (s.plat.isDevice a) a v).succ (b := a) rfl rfl).succ
    (b := a + 1) (by bv_omega) rfl).succ (b := a + 2) (by bv_omega) rfl).succ (b := a + 3) (by bv_omega) rfl
  simp only [setWidth_ushiftRight_eq_extractLsb'] at hbytes
  exact hbytes.storesInto (.inr (.inr rfl)) ha

end

end Sys2Proof.Machine
end

section
/-!
PROOF. What every store of an instruction keeps, and how an instruction ends. `State.Stored` says it of any number of stores; `Ends` has
one case for each way in which an instruction answers a next state, and `exec_ends` is the one walk over all instructions.
-/

namespace Sys2Proof.Machine

/-! ### Protection looks at the word and at the PMP registers -/

theorem PmpEntry.matches_of_word_eq (grain : Nat) (e : PmpEntry) {a x : Word} (h : x >>> 2 = a >>> 2) :
    e.matches grain x = e.matches grain a := by
  simp only [PmpEntry.matches, h]

theorem pmpDeciding_of_word_eq (plat : Platform) (h : Hart) {a x : Word} (e : x >>> 2 = a >>> 2) (l : List (Fin 16)) :
    pmpDeciding plat h x l = pmpDeciding plat h a l := by
  induction l with
  | nil => rfl
  | cons n rest ih => simp only [pmpDeciding, PmpEntry.matches_of_word_eq _ _ e, ih]

theorem pmpAllows_of_word_eq (plat : Platform) (h : Hart) (priv : Priv) (kind : PmpKind) {a x : Word}
    (e : x.toNat / 4 = a.toNat / 4) : pmpAllows plat h priv kind x = pmpAllows plat h priv kind a := by
  have hword : x >>> 2 = a >>> 2 := by
    apply BitVec.eq_of_toNat_eq
    simpa [BitVec.toNat_ushiftRight, Nat.shiftRight_eq_div_pow] using e
  simp only [pmpAllows, pmpDeciding_of_word_eq plat h hword]

/-- The held values of the fetches play no part in protection. -/
theorem pmpAllows_stale (plat : Platform) (h : Hart) (stale : List (Nat × Byte)) (priv : Priv) (kind : PmpKind) (a : Word) :
    pmpAllows plat { h with stale := stale } priv kind a = pmpAllows plat h priv kind a := by
  have hdeciding (l : List (Fin 16)) : pmpDeciding plat { h with stale := stale } a l = pmpDeciding plat h a l := by
    induction l with
    | nil => rfl
    | cons n rest ih => simp only [pmpDeciding, ih]; rfl
  simp only [pmpAllows, hdeciding]

/-- What needs read and write permission needs write permission. -/
theorem pmpAllows_write_of_readWrite {plat : Platform} {h : Hart} {priv : Priv} {a : Word}
    (e : pmpAllows plat h priv .readWrite a = true) : pmpAllows plat h priv .write a = true := by
  unfold pmpAllows at e ⊢
  split at e
  · simp only [pmpPermits, Bool.or_eq_true, Bool.and_eq_true] at e ⊢
    exact e.imp_right And.right
  · exact e

/-! ### Any number of stores -/

/-- The machine t is s after stores that protection lets the running hart of s make: no write goes unnoticed, and nothing else has
changed. -/
structure State.Stored (s t : State) : Prop where
  hart : t.hart = { s.hart with stale := t.hart.stale }
  other : t.other = { s.other with stale := t.other.stale, reservation := t.other.reservation }
  system : s.sameSystem t
  wf : s.mem.wf = true → t.mem.wf = true
  hartHeld : ∀ x v, v ∈ s.hart.heldValues x → v ∈ t.hart.heldValues x
  otherHeld : ∀ x v, v ∈ s.other.heldValues x → v ∈ t.other.heldValues x
  notReserved : ∀ a, s.other.reservedAt s.plat a = false → t.other.reservedAt s.plat a = false
  noticed : ∀ a : Word, t.mem.byteAt a.toNat ≠ s.mem.byteAt a.toNat →
    s.mem.byteAt a.toNat ∈ t.hart.heldValues a.toNat ∧ s.mem.byteAt a.toNat ∈ t.other.heldValues a.toNat ∧
      t.other.reservedAt s.plat a = false ∧ s.dataAllowed .write a = true

section
variable {s t u : State}

theorem State.Stored.refl (s : State) : s.Stored s where
  hart := rfl
  other := rfl
  system := ⟨rfl, rfl, rfl, rfl⟩
  wf := id
  hartHeld _ _ := id
  otherHeld _ _ := id
  notReserved _ := id
  noticed _ h := absurd rfl h

theorem State.Stored.plat (h : s.Stored t) : t.plat = s.plat := h.system.1

theorem State.Stored.pc (h : s.Stored t) : t.hart.pc = s.hart.pc := by rw [h.hart]

theorem State.Stored.dataAllowed (h : s.Stored t) (kind : PmpKind) (a : Word) :
    t.dataAllowed kind a = s.dataAllowed kind a := by
  rw [State.dataAllowed, State.dataAllowed, h.hart, h.plat, pmpAllows_stale]
  rfl

theorem State.Stored.trans (h : s.Stored t) (k : t.Stored u) : s.Stored u where
  hart := by rw [k.hart, h.hart]
  other := by rw [k.other, h.other]
  system := by
    obtain ⟨h1, h2, h3, h4⟩ := h.system
    obtain ⟨k1, k2, k3, k4⟩ := k.system
    exact ⟨k1.trans h1, k2.trans h2, k3.trans h3, k4.trans h4⟩
  wf := k.wf ∘ h.wf
  hartHeld x v := k.hartHeld x v ∘ h.hartHeld x v
  otherHeld x v := k.otherHeld x v ∘ h.otherHeld x v
  notReserved a e := by
    have := k.notReserved a
    rw [h.plat] at this
    exact this (h.notReserved a e)
  noticed a hne := by
    have hlater := k.notReserved a
    have hnoticed := k.noticed a
    rw [h.plat] at hlater hnoticed
    by_cases e : t.mem.byteAt a.toNat = s.mem.byteAt a.toNat
    · rw [← e, ← h.dataAllowed]
      exact hnoticed (by rw [e]; exact hne)
    · obtain ⟨hhart, hother, hlost, hallowed⟩ := h.noticed a e
      exact ⟨k.hartHeld _ _ hhart, k.otherHeld _ _ hother, hlater hlost, hallowed⟩

/-- A store of n bytes at an aligned address that protection lets through. -/
theorem State.Stored.of_storesInto {device : Bool} {a v : Word} {n : Nat} (hn : n = 1 ∨ n = 2 ∨ n = 4) (ha : a.toNat % n = 0)
    (hallowed : s.dataAllowed .write a = true) (hinto : s.storesInto t device (storedByte a v n))
    (hhart : t.hart = { s.hart with stale := t.hart.stale })
    (hother : t.other = { s.other with stale := t.other.stale, reservation := t.other.reservation })
    (hsystem : s.sameSystem t) (hwf : s.mem.wf = true → t.mem.wf = true) : s.Stored t := by
  obtain ⟨hmem, hheld, hotherHeld, -, -, -, -, -, hreservation, hlost, -⟩ := hinto
  have hgrows {g k : Hart} (e : g.remembers s (storedByte a v n) k) (x : Nat) (b : Byte) (hb : b ∈ g.heldValues x) :
      b ∈ k.heldValues x := by
    rw [e x]
    split
    · exact List.mem_cons_of_mem _ hb
    · exact hb
  refine ⟨hhart, hother, hsystem, hwf, hgrows hheld, hgrows hotherHeld, fun x hx => ?_, fun x hne => ?_⟩
  · rcases hreservation with e | e
    · unfold Hart.reservedAt at hx ⊢
      rwa [e]
    · simp [Hart.reservedAt, e]
  · have hsome : (storedByte a v n x.toNat).isSome := by
      by_contra hnone
      rw [Bool.not_eq_true, Option.isSome_eq_false_iff, Option.isNone_iff_eq_none] at hnone
      exact hne (by rw [hmem, hnone]; simp)
    refine ⟨?_, ?_, hlost x hsome, ?_⟩
    · rw [hheld, if_pos hsome]
      exact List.mem_cons_self
    · rw [hotherHeld, if_pos hsome]
      exact List.mem_cons_self
    · rw [State.dataAllowed, pmpAllows_of_word_eq _ _ _ _ (word_eq_of_storedByte hn ha hsome)]
      exact hallowed

end

theorem Hart.loseReservation_eq (p : Platform) (h : Hart) (a : Word) :
    h.loseReservation p a = { h with reservation := (h.loseReservation p a).reservation } := by
  unfold Hart.loseReservation
  split <;> rfl

theorem State.store8_sameSystem (s : State) (a : Word) (v : Byte) : s.sameSystem (s.store8 a v) := by
  simp [State.sameSystem, State.store8]

theorem State.store16_sameSystem (s : State) (a : Word) (v : Half) : s.sameSystem (s.store16 a v) := by
  simp [State.sameSystem, State.store16]

theorem State.store32_sameSystem (s : State) (a v : Word) : s.sameSystem (s.store32 a v) := by
  simp [State.sameSystem]

section
variable {s : State} {a : Word} (v : Word) (hallowed : s.dataAllowed .write a = true)
include hallowed

theorem State.store8_stored : s.Stored (s.store8 a (v.extractLsb' 0 8)) :=
  .of_storesInto (.inl rfl) (Nat.mod_one _) hallowed (s.store8_storesInto a v) (State.store8_hart ..)
    (by rw [State.store8, State.endOtherReservation_other, Hart.loseReservation_eq]; simp)
    (State.store8_sameSystem ..) (State.store8_wf a _)

theorem State.store16_stored (ha : a.toNat % 2 = 0) : s.Stored (s.store16 a (v.extractLsb' 0 16)) :=
  .of_storesInto (.inr (.inl rfl)) ha hallowed (s.store16_storesInto v ha) (State.store16_hart ..)
    (by rw [State.store16, State.endOtherReservation_other, Hart.loseReservation_eq]; simp)
    (State.store16_sameSystem ..) (State.store16_wf a _)

theorem State.store32_stored (ha : a.toNat % 4 = 0) : s.Stored (s.store32 a v) :=
  .of_storesInto (.inr (.inr rfl)) ha hallowed (s.store32_storesInto v ha) (State.store32_hart ..)
    (by rw [State.store32, State.endOtherReservation_other, Hart.loseReservation_eq]; simp)
    (State.store32_sameSystem ..) (State.store32_wf a _)

end

/-! ### How an instruction ends -/

/-- The running hart with other general registers. -/
def State.withRegs (s : State) (regs : Vector Word 31) : State := { s with hart := { s.hart with regs := regs } }

theorem State.setReg_eq_withRegs (s : State) (r : RegIdx) (v : Word) : s.setReg r v = s.withRegs (s.setReg r v).hart.regs := by
  unfold State.setReg State.withRegs Hart.setReg
  split <;> rfl

theorem popAll_eq_withRegs (regs : List RegIdx) (a : Word) (s : State) : ∃ v, popAll regs a s = s.withRegs v := by
  induction regs generalizing a s with
  | nil => exact ⟨s.hart.regs, rfl⟩
  | cons r rest ih =>
    obtain ⟨v, hv⟩ := ih (a - 4) (s.setReg r (s.load32 (a - 4)))
    rw [State.setReg_eq_withRegs] at hv
    exact ⟨v, (congrArg (popAll rest (a - 4)) (State.setReg_eq_withRegs ..)).trans hv⟩

/-- sc.w and the AMOs. -/
def writesExclusively : Instr → Bool
  | .scW .. | .amoaddW .. | .amoandW .. | .amoorW .. | .amoxorW .. | .amoswapW .. | .amomaxW .. | .amomaxuW ..
  | .amominW .. | .amominuW .. => true
  | _ => false

/-- What an instruction of s leaves where it answers a next state, one case for each way to end. -/
inductive Ends (i : Instr) (s : State) : State → Prop
  /-- It writes registers and stores, and goes on at a pc that is even where the instruction is well-formed. -/
  | finishes (u : State) (regs : Vector Word 31) (pc : Word) (hu : s.Stored u)
      (hpc : i.wf = true → s.hart.pc.getLsbD 0 = false → pc.getLsbD 0 = false) : Ends i s ((u.withRegs regs).setPc pc).retire
  /-- It raises, perhaps after some stores of a push. -/
  | traps (u : State) (c : Cause) (hu : s.Stored u) : Ends i s (enterTrap (.exception c) u)
  /-- sc.w with the local monitor set, or an AMO. -/
  | endsExclusive (u : State) (regs : Vector Word 31) (hi : writesExclusively i = true) (hu : s.Stored u) :
      Ends i s ((u.endExclusive.withRegs regs).setPc (s.hart.pc + 4)).retire
  /-- lr.w. -/
  | reserves (a : Word) (regs : Vector Word 31) (hi : ∃ rd rs1 aq rl, i = .lrW rd rs1 aq rl) :
      Ends i s (((s.reserve a).withRegs regs).setPc (s.hart.pc + 4)).retire
  /-- A CSR instruction that passes its checks. -/
  | accesses (a : CsrAddr) (c : Csr) (write : Option Word) (rd : RegIdx) (hc : csrVerdict a write.isSome s = .access c) :
      Ends i s (csrCommit c write rd s)
  /-- mret in M-mode. -/
  | returns (hi : i = .mret) (hpriv : s.hart.priv = .machine) : Ends i s (leaveTrap s).retire
  /-- fence.i. -/
  | clearsStale : Ends i s (s.clearStale.setPc (s.hart.pc + 4)).retire

/-! ### Even addresses -/

theorem getLsbD_zero_iff {n : Nat} {a : BitVec n} : a.getLsbD 0 = false ↔ a.toNat % 2 = 0 := by
  simp only [BitVec.getLsbD, Nat.testBit_zero, decide_eq_false_iff_not]
  omega

theorem getLsbD_zero_add {a b : Word} (ha : a.getLsbD 0 = false) (hb : b.getLsbD 0 = false) : (a + b).getLsbD 0 = false := by
  rw [getLsbD_zero_iff] at *
  bv_omega

theorem getLsbD_zero_signExtend {n : Nat} (hn : 0 < n) {offset : BitVec n} (h : isEven offset = true) :
    (signExtend offset).getLsbD 0 = false := by
  have hbit : offset.getLsbD 0 = false := by simpa using congrArg (BitVec.getLsbD · 0) (isEven_iff.mp h)
  simp only [signExtend, BitVec.getLsbD_signExtend, hn, if_true, hbit, Bool.and_false]

theorem getLsbD_zero_and_even (a : Word) : (a &&& 0xfffffffe).getLsbD 0 = false := by
  simp

/-! ### The shared operations -/

section
variable {i : Instr} {s t : State}

theorem ends_of_raise {c : Cause} (h : raise c s = .next t) : Ends i s t := raise_next h ▸ .traps s c (.refl s)

theorem ends_of_guarded {v : Verdict} {body : Result} (hbody : v = .allowed → body = .next t → Ends i s t)
    (h : guarded v s body = .next t) : Ends i s t := by
  rcases guarded_next h with ⟨hv, hb⟩ | ⟨c, -, rfl⟩
  · exact hbody hv hb
  · exact .traps s c (.refl s)

theorem ends_of_finishAt {u : State} (hu : s.Stored u) {regs : Vector Word 31} {pc : Word}
    (hpc : i.wf = true → s.hart.pc.getLsbD 0 = false → pc.getLsbD 0 = false)
    (h : finishAt pc (u.withRegs regs) = .next t) : Ends i s t :=
  finishAt_next h ▸ .finishes u regs pc hu hpc

/-- The instruction that follows one of an even length. -/
theorem ends_of_finish {u : State} (hu : s.Stored u) {regs : Vector Word 31} {len : Word} (hlen : len.getLsbD 0 = false)
    (h : finish len (u.withRegs regs) = .next t) : Ends i s t := by
  refine ends_of_finishAt hu (fun _ he => ?_) h
  rw [show (u.withRegs regs).hart.pc = s.hart.pc from hu.pc]
  exact getLsbD_zero_add he hlen

theorem ends_of_finish_stored {u : State} (hu : s.Stored u) {len : Word} (hlen : len.getLsbD 0 = false)
    (h : finish len u = .next t) : Ends i s t := ends_of_finish (regs := u.hart.regs) hu hlen h

theorem ends_of_writeReg_of_stored {u : State} (hu : s.Stored u) {rd : RegIdx} {len v : Word} (hlen : len.getLsbD 0 = false)
    (h : writeReg len rd v u = .next t) : Ends i s t := by
  rw [writeReg, State.setReg_eq_withRegs] at h
  exact ends_of_finish hu hlen h

theorem ends_of_writeReg {rd : RegIdx} {len v : Word} (hlen : len.getLsbD 0 = false) (h : writeReg len rd v s = .next t) :
    Ends i s t := ends_of_writeReg_of_stored (.refl s) hlen h

theorem ends_of_branch {len offset : Word} {taken : Bool} (hlen : len.getLsbD 0 = false)
    (hoffset : i.wf = true → offset.getLsbD 0 = false) (h : branch len taken offset s = .next t) : Ends i s t := by
  unfold branch at h
  split at h
  · exact ends_of_finishAt (regs := s.hart.regs) (.refl s) (fun hi he => getLsbD_zero_add he (hoffset hi)) h
  · exact ends_of_finish_stored (.refl s) hlen h

theorem ends_of_jumpAndLink {len target : Word} {rd : RegIdx}
    (htarget : i.wf = true → s.hart.pc.getLsbD 0 = false → target.getLsbD 0 = false)
    (h : jumpAndLink len rd target s = .next t) : Ends i s t := by
  rw [jumpAndLink, State.setReg_eq_withRegs] at h
  exact ends_of_finishAt (.refl s) htarget h

/-! ### Loads and stores -/

theorem ends_of_guarded_writeReg {v : Verdict} {len x : Word} {rd : RegIdx} (hlen : len.getLsbD 0 = false)
    (h : guarded v s (writeReg len rd x s) = .next t) : Ends i s t := ends_of_guarded (fun _ => ends_of_writeReg hlen) h

section
variable {len a v : Word} (hlen : len.getLsbD 0 = false)
include hlen

theorem ends_of_storeByteOf (h : storeByteOf len a v s = .next t) : Ends i s t := by
  refine ends_of_guarded (fun hv hb => ?_) h
  obtain ⟨-, hallowed, -⟩ := (State.verdict_allowed_iff ..).mp hv
  exact ends_of_finish_stored (State.store8_stored v hallowed) hlen hb

theorem ends_of_storeHalf (h : storeHalf len a v s = .next t) : Ends i s t := by
  refine ends_of_guarded (fun hv hb => ?_) h
  obtain ⟨ha, hallowed, -⟩ := (State.verdict_allowed_iff ..).mp hv
  exact ends_of_finish_stored (State.store16_stored v hallowed ha) hlen hb

theorem ends_of_storeWord (h : storeWord len a v s = .next t) : Ends i s t := by
  refine ends_of_guarded (fun hv hb => ?_) h
  obtain ⟨ha, hallowed, -⟩ := (State.verdict_allowed_iff ..).mp hv
  exact ends_of_finish_stored (State.store32_stored v hallowed ha) hlen hb

end

/-! ### Exclusive accesses -/

theorem ends_of_writeReg_endExclusive {u : State} (hi : writesExclusively i = true) (hu : s.Stored u) {rd : RegIdx} {v : Word}
    (h : writeReg 4 rd v u.endExclusive = .next t) : Ends i s t := by
  rw [writeReg, State.setReg_eq_withRegs] at h
  have ht : t = ((u.endExclusive.withRegs _).setPc (u.hart.pc + 4)).retire := finish_next h
  rw [ht, hu.pc]
  exact .endsExclusive u _ hi hu

theorem ends_of_loadReserved {rd : RegIdx} {a : Word} (hi : ∃ rd rs1 aq rl, i = .lrW rd rs1 aq rl)
    (h : loadReserved rd a s = .next t) : Ends i s t := by
  refine ends_of_guarded (fun _ hb => ?_) h
  rw [writeReg, State.setReg_eq_withRegs] at hb
  have hpc : (s.reserve a).hart.pc = s.hart.pc := by
    unfold State.reserve
    split <;> rfl
  have hfinish := finish_next hb
  rw [show ((s.reserve a).withRegs ((s.reserve a).setReg rd (s.load32 a)).hart.regs).hart.pc = s.hart.pc from hpc] at hfinish
  exact hfinish ▸ .reserves a _ hi

theorem ends_of_storeConditional {rd : RegIdx} {a v : Word} (hi : writesExclusively i = true)
    (h : storeConditional rd a v s = .next t) : Ends i s t := by
  refine ends_of_guarded (fun hv hb => ?_) h
  obtain ⟨ha, hallowed, -⟩ := (State.verdict_allowed_iff ..).mp hv
  unfold storeConditionalBody at hb
  split at hb
  · exact ends_of_writeReg rfl hb
  · split at hb
    · exact ends_of_writeReg_endExclusive hi (State.store32_stored v hallowed ha) hb
    · exact ends_of_writeReg_endExclusive hi (.refl s) hb

theorem ends_of_atomicUpdate {f : Word → Word → Word} {rd : RegIdx} {a v : Word} (hi : writesExclusively i = true)
    (h : atomicUpdate f rd a v s = .next t) : Ends i s t := by
  refine ends_of_guarded (fun hv hb => ?_) h
  obtain ⟨hexclusive, -⟩ := (State.amoVerdict_allowed_iff s a).mp hv
  obtain ⟨ha, hallowed, -⟩ := (State.verdict_allowed_iff ..).mp hexclusive
  exact ends_of_writeReg_endExclusive hi (State.store32_stored _ (pmpAllows_write_of_readWrite hallowed) ha) hb

/-! ### Pushes and pops -/

theorem ends_of_pushAll {regs : List RegIdx} {a : Word} {u : State} {done : State → Result} (hu : s.Stored u)
    (hdone : ∀ w, s.Stored w → done w = .next t → Ends i s t) (h : pushAll regs a u done = .next t) : Ends i s t := by
  induction regs generalizing a u with
  | nil => exact hdone u hu h
  | cons r rest ih =>
    rcases stackAccess_next h with ⟨hv, -, h⟩ | ⟨c, -, rfl⟩
    · obtain ⟨ha, hallowed, -⟩ := (State.verdict_allowed_iff ..).mp hv
      exact ih (hu.trans (State.store32_stored _ hallowed ha)) h
    · exact .traps u c hu

theorem ends_of_popThen {rlist : BitVec 4} {spimm : BitVec 2} {done : State → Result}
    (hdone : ∀ regs, done (s.withRegs regs) = .next t → Ends i s t) (h : popThen rlist spimm s done = .next t) : Ends i s t := by
  rcases popThen_next h with ⟨-, h⟩ | ⟨k, c, -, -, rfl⟩
  · obtain ⟨regs, hregs⟩ := popAll_eq_withRegs (registerList rlist).reverse (s.reg sp + stackAdjust rlist spimm) s
    rw [hregs, State.setReg_eq_withRegs] at h
    exact hdone _ h
  · exact .traps s c (.refl s)

theorem ends_of_returnTo {regs : Vector Word 31} (h : returnTo (s.withRegs regs) = .next t) : Ends i s t :=
  ends_of_finishAt (.refl s) (fun _ _ => getLsbD_zero_and_even _) h

/-! ### CSR instructions -/

theorem ends_of_csrInstr {a : CsrAddr} {rd : RegIdx} {w : Option (Word → Word)} (h : csrInstr a rd w s = .next t) :
    Ends i s t := by
  rcases csrInstr_next h with ⟨-, rfl⟩ | ⟨c, hc, -, rfl⟩
  · exact .traps s .illegal (.refl s)
  · exact .accesses a c _ rd (by rwa [Option.isSome_map])

end

/-! ### Every instruction -/

/-- Each instruction ends in one of the ways of `Ends`. -/
theorem exec_ends {i : Instr} {s t : State} (h : exec i s = .next t) : Ends i s t := by
  cases i with
  | add | and | or | sll | slt | sltu | sra | srl | sub | xor | addi | andi | ori | slli | slti | sltiu | srai | srli | xori | auipc
  | lui | div | divu | mul | mulh | mulhsu | mulhu | rem | remu | sh1add | sh2add | sh3add | andn | clz | cpop | ctz | max | maxu
  | min | minu | orcB | orn | rev8 | rol | ror | rori | sextB | sextH | xnor | zextH | bclr | bclri | bext | bexti | binv | binvi
  | bset | bseti | brev8 | pack | packh | unzip | zip | cAddi4spn | cNop | cAddi | cLi | cAddi16sp | cLui | cSrli | cSrai | cAndi
  | cSub | cXor | cOr | cAnd | cSlli | cMv | cAdd | cZextB | cSextB | cZextH | cSextH | cNot | cMul =>
    exact ends_of_writeReg rfl h
  | beq _ _ offset | bge _ _ offset | bgeu _ _ offset | blt _ _ offset | bltu _ _ offset | bne _ _ offset | cBeqz _ offset
  | cBnez _ offset => exact ends_of_branch rfl (getLsbD_zero_signExtend (by decide)) h
  | jal _ offset | cJal offset | cJ offset =>
    exact ends_of_jumpAndLink (fun hi he => getLsbD_zero_add he (getLsbD_zero_signExtend (by decide) hi)) h
  | jalr | cJr | cJalr => exact ends_of_jumpAndLink (fun _ _ => getLsbD_zero_and_even _) h
  | lb | lbu | lh | lhu | lw | cLw | cLwsp | cLbu | cLhu | cLh => exact ends_of_guarded_writeReg rfl h
  | sb | cSb => exact ends_of_storeByteOf rfl h
  | sh | cSh => exact ends_of_storeHalf rfl h
  | sw | cSw | cSwsp => exact ends_of_storeWord rfl h
  | amoaddW | amoandW | amomaxW | amomaxuW | amominW | amominuW | amoorW | amoxorW => exact ends_of_atomicUpdate rfl h
  | amoswapW => exact ends_of_atomicUpdate (f := fun _ v => v) rfl h
  | lrW rd rs1 aq rl => exact ends_of_loadReserved ⟨rd, rs1, aq, rl, rfl⟩ h
  | scW => exact ends_of_storeConditional rfl h
  | fence | fenceTso => exact ends_of_finish_stored (.refl s) rfl h
  | fenceI => exact finish_next h ▸ .clearsStale
  | csrrc | csrrci | csrrs | csrrsi | csrrw | csrrwi => exact ends_of_csrInstr h
  | ebreak | cEbreak => exact (breakpoint_next h).2 ▸ .traps s .breakpoint (.refl s)
  | ecall => exact ends_of_raise h
  | mret =>
    change execMret s = .next t at h
    unfold execMret at h
    split at h
    · next hpriv => cases h; exact .returns rfl hpriv
    · exact ends_of_raise h
  | wfi =>
    change execWfi s = .next t at h
    unfold execWfi at h
    split at h
    · exact ends_of_raise h
    · exact ends_of_finish_stored (.refl s) rfl h
  | cmPush rlist spimm => exact ends_of_pushAll (.refl s) (fun u hu => ends_of_writeReg_of_stored hu rfl) h
  | cmPop => exact ends_of_popThen (fun regs => ends_of_finish (regs := regs) (.refl s) rfl) h
  | cmPopret => exact ends_of_popThen (fun regs => ends_of_returnTo (regs := regs)) h
  | cmPopretz =>
    refine ends_of_popThen (done := fun u => returnTo (u.setReg a0 0)) (fun regs h => ?_) h
    rw [State.setReg_eq_withRegs] at h
    exact ends_of_returnTo h
  | cmMvsa01 | cmMva01s =>
    change finish 2 _ = .next t at h
    rw [State.setReg_eq_withRegs, State.setReg_eq_withRegs] at h
    exact ends_of_finish (.refl s) rfl h

end Sys2Proof.Machine
end

section
/-!
PROOF. The invariant (10 R37, R46 to R58, R63; 49 R415; 60 R461). Each way of an instruction to end keeps it, and so do trap entry and
the move to the next step.
-/

namespace Sys2Proof.Machine

/-! ### The ways to end: what configures the running hart stays, but for traps, CSR instructions and mret -/

section
variable {s u : State}

theorem Hart.sameControl_refl (h : Hart) : h.sameControl h :=
  ⟨rfl, rfl, rfl, rfl, rfl, rfl, rfl, rfl, rfl, rfl, rfl, rfl, rfl, rfl, rfl⟩

theorem State.Stored.sameControl (hu : s.Stored u) : s.hart.sameControl u.hart := by
  rw [hu.hart]
  exact Hart.sameControl_refl s.hart

theorem State.sameControl_finishes (u : State) (regs : Vector Word 31) (pc : Word) :
    u.hart.sameControl ((u.withRegs regs).setPc pc).retire.hart := by
  unfold State.retire
  split <;> exact Hart.sameControl_refl u.hart

theorem Hart.sameControl.trans {g h k : Hart} (hgh : g.sameControl h) (hhk : h.sameControl k) : g.sameControl k := by
  obtain ⟨h1, h2, h3, h4, h5, h6, h7, h8, h9, h10, h11, h12, h13, h14, h15⟩ := hgh
  obtain ⟨k1, k2, k3, k4, k5, k6, k7, k8, k9, k10, k11, k12, k13, k14, k15⟩ := hhk
  exact ⟨k1.trans h1, k2.trans h2, k3.trans h3, k4.trans h4, k5.trans h5, k6.trans h6, k7.trans h7, k8.trans h8, k9.trans h9,
    k10.trans h10, k11.trans h11, k12.trans h12, k13.trans h13, k14.trans h14, k15.trans h15⟩

theorem State.sameControl_endExclusive (u : State) : u.hart.sameControl u.endExclusive.hart := Hart.sameControl_refl u.hart

theorem State.sameControl_reserve (s : State) (a : Word) : s.hart.sameControl (s.reserve a).hart := by
  unfold State.reserve
  split <;> exact Hart.sameControl_refl s.hart

theorem State.reserve_mem (s : State) (a : Word) : (s.reserve a).mem = s.mem := by
  unfold State.reserve
  split <;> rfl

theorem State.reserve_other (s : State) (a : Word) : (s.reserve a).other = s.other := by
  unfold State.reserve
  split <;> rfl

theorem State.reserve_sameSystem (s : State) (a : Word) : s.sameSystem (s.reserve a) := by
  unfold State.reserve
  split <;> exact ⟨rfl, rfl, rfl, rfl⟩

theorem State.reserve_stale (s : State) (a : Word) : (s.reserve a).hart.stale = s.hart.stale := by
  unfold State.reserve
  split <;> rfl

theorem State.sameControl_clearStale (s : State) : s.hart.sameControl s.clearStale.hart := Hart.sameControl_refl s.hart

end

/-! ### A CSR instruction -/

/-- The hart with another count of instructions. -/
def Hart.withMinstret (h : Hart) (m : BitVec 64) : Hart := { h with minstret := m }

theorem Hart.sameControl_withMinstret (h : Hart) (m : BitVec 64) : h.sameControl (h.withMinstret m) := Hart.sameControl_refl h

section
variable (p : Platform) (h : Hart) (m : BitVec 64)

theorem Hart.setPmpCfgByte_withMinstret (n : Fin 16) (v : Byte) :
    (h.withMinstret m).setPmpCfgByte p n v = (h.setPmpCfgByte p n v).withMinstret m := by
  have hpmpcfg : (h.withMinstret m).pmpcfg = h.pmpcfg := rfl
  simp only [Hart.setPmpCfgByte, hpmpcfg]
  split <;> rfl

theorem Hart.setPmpCfg_withMinstret (k : Fin 4) (v : Word) :
    (h.withMinstret m).setPmpCfg p k v = (h.setPmpCfg p k v).withMinstret m := by
  simp only [Hart.setPmpCfg, Hart.setPmpCfgByte_withMinstret]

theorem Hart.setPmpAddr_withMinstret (n : Fin 16) (v : Word) :
    (h.withMinstret m).setPmpAddr p n v = (h.setPmpAddr p n v).withMinstret m := by
  have hpmpcfg : (h.withMinstret m).pmpcfg = h.pmpcfg := rfl
  have hbound : pmpBoundLocked p (h.withMinstret m) n = pmpBoundLocked p h n := rfl
  simp only [Hart.setPmpAddr, hpmpcfg, hbound]
  split <;> rfl

/-- The count of instructions plays no part in what a write of a CSR leaves in the others. -/
theorem Hart.sameControl_csrWrite_withMinstret (c : Csr) (v : Word) :
    (h.csrWrite p c v).sameControl ((h.withMinstret m).csrWrite p c v) := by
  cases c with
  | pmpcfg k => simp only [Hart.csrWrite, Hart.setPmpCfg_withMinstret, Hart.sameControl_withMinstret]
  | pmpaddr n => simp only [Hart.csrWrite, Hart.setPmpAddr_withMinstret, Hart.sameControl_withMinstret]
  | _ => exact ⟨rfl, rfl, rfl, rfl, rfl, rfl, rfl, rfl, rfl, rfl, rfl, rfl, rfl, rfl, rfl⟩

end

theorem State.retire_hart_eq (s : State) : s.retire.hart = s.hart.withMinstret s.retire.hart.minstret := by
  unfold State.retire
  split <;> rfl

theorem State.sameControl_retire (s : State) : s.hart.sameControl s.retire.hart := by
  rw [State.retire_hart_eq]
  exact Hart.sameControl_withMinstret ..

theorem State.sameControl_setReg (s : State) (r : RegIdx) (v : Word) : s.hart.sameControl (s.setReg r v).hart := by
  rw [State.setReg_eq_withRegs]
  exact Hart.sameControl_refl s.hart

/-- A CSR instruction that does not write changes no other register than rd and the count. -/
theorem csrCommit_none_sameControl (c : Csr) (rd : RegIdx) (s : State) : s.hart.sameControl (csrCommit c none rd s).hart :=
  (State.sameControl_retire s).trans (State.sameControl_setReg s.retire rd _)

/-- A CSR instruction that writes leaves what the write leaves. -/
theorem csrCommit_some_sameControl (c : Csr) (v : Word) (rd : RegIdx) (s : State) :
    (s.hart.csrWrite s.plat c v).sameControl (csrCommit c (some v) rd s).hart := by
  refine Hart.sameControl.trans ?_ (State.sameControl_setReg (csrWrite c v (if c.isInstret then s else s.retire)) rd _)
  split
  · exact Hart.sameControl_refl _
  · rw [csrWrite_hart, State.retire_plat, State.retire_hart_eq]
    exact Hart.sameControl_csrWrite_withMinstret ..

theorem csrCommit_pc (c : Csr) (w : Option Word) (rd : RegIdx) (s : State) :
    (csrCommit c w rd s).hart.pc = s.hart.pc + 4 := by
  unfold csrCommit
  split <;> rfl

theorem csrCommit_other (c : Csr) (w : Option Word) (rd : RegIdx) (s : State) : (csrCommit c w rd s).other = s.other := by
  unfold csrCommit
  split
  · simp
  · split <;> simp

theorem csrCommit_mem (c : Csr) (w : Option Word) (rd : RegIdx) (s : State) : (csrCommit c w rd s).mem = s.mem := by
  unfold csrCommit
  split
  · simp
  · split <;> simp

theorem csrCommit_sameSystem (c : Csr) (w : Option Word) (rd : RegIdx) (s : State) : s.sameSystem (csrCommit c w rd s) := by
  unfold csrCommit State.sameSystem
  split
  · simp
  · split <;> simp

theorem csrCommit_stale (c : Csr) (w : Option Word) (rd : RegIdx) (s : State) :
    (csrCommit c w rd s).hart.stale = s.hart.stale := by
  unfold csrCommit
  split
  · simp
  · split <;> simp

theorem csrCommit_sameMonitors (c : Csr) (w : Option Word) (rd : RegIdx) (s : State) :
    s.hart.sameMonitors (csrCommit c w rd s).hart := by
  unfold csrCommit Hart.sameMonitors
  split
  · simp
  · split <;> simp

/-! ### The checks of a CSR instruction -/

theorem csrNeedsMachine_eq_false {a : CsrAddr} : csrNeedsMachine a = false ↔ a.toNat / 256 % 4 = 0 := by
  simp [csrNeedsMachine, ← BitVec.toNat_inj, Nat.shiftRight_eq_div_pow]

theorem csrReadOnly_iff {a : CsrAddr} : csrReadOnly a = true ↔ a.toNat / 1024 % 4 = 3 := by
  simp [csrReadOnly, ← BitVec.toNat_inj, Nat.shiftRight_eq_div_pow]

/-- Every register that U-mode may reach has a read-only address (10 R45). -/
theorem csrReadOnly_of_not_needsMachine {a : CsrAddr} {c : Csr} (hc : csrAt a = some c) (hu : csrNeedsMachine a = false) :
    csrReadOnly a = true := by
  have hmem := csrAt_mem_addresses hc
  rw [csrNeedsMachine_eq_false] at hu
  rw [csrReadOnly_iff]
  cases c with
  | hpm => simp only [Csr.addresses, List.mem_append, List.mem_range'_1] at hmem; omega
  | custom => simp only [Csr.addresses, List.mem_range'_1] at hmem; omega
  | _ => simp only [Csr.addresses, List.mem_cons, List.not_mem_nil, or_false] at hmem; omega

theorem csrVerdict_access {a : CsrAddr} {writes : Bool} {s : State} {c : Csr} (h : csrVerdict a writes s = .access c) :
    csrOf s.plat a = some c ∧ (s.hart.priv = .user → csrNeedsMachine a = false ∧ counterEnabled s.hart c = true) ∧
      (writes = true → csrReadOnly a = false) := by
  unfold csrVerdict at h
  split at h
  · cases h
  · next d hd =>
    split at h
    · cases h
    · next hpriv =>
      split at h
      · cases h
      · next hwrite => cases h; refine ⟨hd, ?_, ?_⟩ <;> simp_all

theorem csrAt_of_csrOf {p : Platform} {a : CsrAddr} {c : Csr} (h : csrOf p a = some c) : csrAt a = some c := by
  unfold csrOf at h
  split at h
  · cases h
  · exact h

/-- In U-mode no CSR instruction writes (10 R45). -/
theorem priv_machine_of_csrVerdict_write {a : CsrAddr} {s : State} {c : Csr} (h : csrVerdict a true s = .access c) :
    s.hart.priv = .machine := by
  obtain ⟨hc, huser, hwrite⟩ := csrVerdict_access h
  cases hpriv : s.hart.priv with
  | machine => rfl
  | user =>
    have hro := csrReadOnly_of_not_needsMachine (csrAt_of_csrOf hc) (huser hpriv).1
    rw [hwrite rfl] at hro
    cases hro

/-! ### The invariant of a hart -/

section
variable {p : Platform} {h k : Hart}

theorem Hart.Inv.of_sameControl (hinv : h.Inv p) (hpc : k.pc.getLsbD 0 = false) (hsame : h.sameControl k) : k.Inv p := by
  obtain ⟨-, hmepc, hmtvec, hmie, hmcause, hmcounteren, hmcountinhibit, hmprv, hpmp⟩ := hinv
  obtain ⟨-, ePriv, eMstatus, eMie, eMtvec, -, eMepc, eMcause, eMcounteren, eMcountinhibit, -, ePmpcfg, -⟩ := hsame
  unfold Hart.Inv
  rw [ePriv, eMstatus, eMie, eMtvec, eMepc, eMcause, eMcounteren, eMcountinhibit, ePmpcfg]
  exact ⟨hpc, hmepc, hmtvec, hmie, hmcause, hmcounteren, hmcountinhibit, hmprv, hpmp⟩

theorem Hart.Inv.passCycle (hinv : h.Inv p) (c : BitVec 64) : (h.passCycle c).Inv p := by
  unfold Hart.passCycle
  split <;> exact hinv

theorem Trap.mcause_masked (t : Trap) : t.mcause &&& ~~~ 0x8000000f#32 = 0#32 := by
  cases t with
  | exception c => cases c <;> decide
  | interrupt i => cases i <;> decide

theorem Hart.trapTarget_even (h : Hart) (t : Trap) : (h.trapTarget t).getLsbD 0 = false := by
  have hbase : h.trapBase.getLsbD 0 = false := by simp [Hart.trapBase]
  unfold Hart.trapTarget
  split
  · exact hbase
  · next i =>
    split
    · exact getLsbD_zero_add hbase (by cases i <;> decide)
    · exact hbase

theorem Hart.Inv.enterTrap (hinv : h.Inv p) (t : Trap) : (h.enterTrap t).Inv p := by
  obtain ⟨hpc, -, hmtvec, hmie, -, hmcounteren, hmcountinhibit, -, hpmp⟩ := hinv
  exact ⟨h.trapTarget_even t, hpc, hmtvec, hmie, t.mcause_masked, hmcounteren, hmcountinhibit, by simp, hpmp⟩

theorem Hart.Inv.leaveTrap (hinv : h.Inv p) : h.leaveTrap.Inv p := by
  obtain ⟨-, hmepc, hmtvec, hmie, hmcause, hmcounteren, hmcountinhibit, -, hpmp⟩ := hinv
  exact ⟨hmepc, hmepc, hmtvec, hmie, hmcause, hmcounteren, hmcountinhibit, fun hu => by simp_all, hpmp⟩

/-- What a write leaves in a configuration byte is legal, where the old value was (10 R63). -/
theorem pmpLegalize_legal {old : Byte} (h1 : old &&& 0x60#8 = 0#8) (h2 : pmpReserved p.pmpGrain old = false) (v : Byte) :
    pmpLegalize p old v &&& 0x60#8 = 0#8 ∧ pmpReserved p.pmpGrain (pmpLegalize p old v) = false := by
  unfold pmpLegalize
  split
  · split
    · exact ⟨h1, h2⟩
    · exact ⟨rfl, by simp [pmpReserved, pmpMode]⟩
  · next hv =>
    refine ⟨?_, by simpa using hv⟩
    rw [BitVec.and_assoc]
    simp

/-- Every PMP entry is legal. -/
def Hart.pmpLegal (p : Platform) (h : Hart) : Prop :=
  ∀ n : Fin 16, h.pmpcfg[n] &&& 0x60#8 = 0#8 ∧ pmpReserved p.pmpGrain h.pmpcfg[n] = false

theorem Hart.pmpLegal.setPmpCfgByte (hl : h.pmpLegal p) (n : Fin 16) (v : Byte) : (h.setPmpCfgByte p n v).pmpLegal p := by
  intro m
  by_cases e : n = m
  · subst e
    rw [Hart.setPmpCfgByte_same]
    split
    · exact pmpLegalize_legal (hl n).1 (hl n).2 v
    · exact hl n
  · rw [Hart.setPmpCfgByte_other p h v e]
    exact hl m

theorem Hart.pmpLegal.setPmpCfg (hl : h.pmpLegal p) (k : Fin 4) (v : Word) : (h.setPmpCfg p k v).pmpLegal p :=
  (((hl.setPmpCfgByte _ _).setPmpCfgByte _ _).setPmpCfgByte _ _).setPmpCfgByte _ _

theorem Hart.Inv.csrWrite (hinv : h.Inv p) (hpriv : h.priv = .machine) (c : Csr) (v : Word) : (h.csrWrite p c v).Inv p := by
  have hinv' := hinv
  obtain ⟨hpc, hmepc, hmtvec, hmie, hmcause, hmcounteren, hmcountinhibit, hmprv, hpmp⟩ := hinv'
  have hm : ∀ x mask : Word, x &&& mask &&& ~~~ mask = 0#32 := fun x mask => by simp [BitVec.and_assoc]
  cases c with
  | mstatus => exact ⟨hpc, hmepc, hmtvec, hmie, hmcause, hmcounteren, hmcountinhibit, by simp [Hart.csrWrite, hpriv], hpmp⟩
  | mie => exact ⟨hpc, hmepc, hmtvec, hm v _, hmcause, hmcounteren, hmcountinhibit, hmprv, hpmp⟩
  | mtvec => exact ⟨hpc, hmepc, by simp [Hart.csrWrite, mtvecMask], hmie, hmcause, hmcounteren, hmcountinhibit, hmprv, hpmp⟩
  | mepc => exact ⟨hpc, by simp [Hart.csrWrite, mepcMask], hmtvec, hmie, hmcause, hmcounteren, hmcountinhibit, hmprv, hpmp⟩
  | mcause => exact ⟨hpc, hmepc, hmtvec, hmie, hm v _, hmcounteren, hmcountinhibit, hmprv, hpmp⟩
  | mcounteren => exact ⟨hpc, hmepc, hmtvec, hmie, hmcause, hm v _, hmcountinhibit, hmprv, hpmp⟩
  | mcountinhibit => exact ⟨hpc, hmepc, hmtvec, hmie, hmcause, hmcounteren, hm v _, hmprv, hpmp⟩
  | pmpcfg k =>
    have hlegal : h.pmpLegal p := hpmp
    refine ⟨?_, ?_, ?_, ?_, ?_, ?_, ?_, ?_, hlegal.setPmpCfg k v⟩ <;> simpa [Hart.csrWrite]
  | pmpaddr n =>
    rw [Hart.csrWrite]
    unfold Hart.setPmpAddr
    split <;> exact hinv
  | _ => exact hinv

end

/-! ### The invariant of the machine -/

section
variable {s t u : State}

/-- The running hart's part of the invariant decides, where the rest of the machine is as after some stores. -/
theorem State.Inv.of_hart (hs : s.Inv) (hu : s.Stored u) (hmem : t.mem = u.mem) (hother : t.other = u.other)
    (hplat : t.plat = s.plat) (hid : t.hart.id = s.hart.id) (hhart : t.hart.Inv s.plat) : t.Inv := by
  obtain ⟨hwf, -, hotherInv, hne⟩ := hs
  refine ⟨hmem ▸ hu.wf hwf, hplat.symm ▸ hhart, ?_, ?_⟩
  · rw [hplat, hother, hu.other]
    exact hotherInv
  · rw [hid, hother, hu.other]
    exact hne

/-- As above, where the running hart changes nothing that configures it. -/
theorem State.Inv.of_sameControl (hs : s.Inv) (hu : s.Stored u) (hmem : t.mem = u.mem) (hother : t.other = u.other)
    (hplat : t.plat = s.plat) {pc : Word} (ePc : t.hart.pc = pc) (hpc : pc.getLsbD 0 = false) (hsame : s.hart.sameControl t.hart) :
    t.Inv :=
  hs.of_hart hu hmem hother hplat hsame.1 (hs.2.1.of_sameControl (by rwa [ePc]) hsame)

/-- An instruction's last step: registers written, the pc, the count. -/
theorem State.finishes_eqs (u : State) (regs : Vector Word 31) (pc : Word) :
    let t := ((u.withRegs regs).setPc pc).retire
    t.mem = u.mem ∧ t.other = u.other ∧ u.sameSystem t ∧ t.hart.pc = pc ∧ t.hart.stale = u.hart.stale ∧
      t.hart.localMonitor = u.hart.localMonitor := by
  unfold State.retire
  split <;> exact ⟨rfl, rfl, ⟨rfl, rfl, rfl, rfl⟩, rfl, rfl, rfl⟩

theorem Ends.inv {i : Instr} (hi : i.wf = true) (hs : s.Inv) (h : Ends i s t) : t.Inv := by
  have hhart : s.hart.Inv s.plat := hs.2.1
  have hpc4 : (s.hart.pc + 4).getLsbD 0 = false := getLsbD_zero_add hhart.1 rfl
  cases h with
  | finishes u regs pc hu hpc =>
    obtain ⟨hmem, hother, hsystem, ePc, -⟩ := u.finishes_eqs regs pc
    exact hs.of_sameControl hu hmem hother (hsystem.1.trans hu.plat) ePc (hpc hi hhart.1)
      (hu.sameControl.trans (State.sameControl_finishes u regs pc))
  | traps u c hu =>
    have huinv : u.hart.Inv s.plat := hhart.of_sameControl (hu.pc ▸ hhart.1) hu.sameControl
    exact hs.of_hart hu rfl rfl hu.plat hu.sameControl.1 (huinv.enterTrap _)
  | endsExclusive u regs hx hu =>
    obtain ⟨hmem, hother, hsystem, ePc, -⟩ := u.endExclusive.finishes_eqs regs (s.hart.pc + 4)
    exact hs.of_sameControl hu hmem hother (hsystem.1.trans hu.plat) ePc hpc4
      ((hu.sameControl.trans u.sameControl_endExclusive).trans (State.sameControl_finishes ..))
  | reserves a regs hx =>
    obtain ⟨hmem, hother, hsystem, ePc, -⟩ := (s.reserve a).finishes_eqs regs (s.hart.pc + 4)
    exact hs.of_sameControl (.refl s) (hmem.trans (s.reserve_mem a)) (hother.trans (s.reserve_other a))
      (hsystem.1.trans (s.reserve_sameSystem a).1) ePc hpc4 ((s.sameControl_reserve a).trans (State.sameControl_finishes ..))
  | accesses a c write rd hc =>
    have hpc : (csrCommit c write rd s).hart.pc.getLsbD 0 = false := csrCommit_pc c write rd s ▸ hpc4
    cases write with
    | none =>
      exact hs.of_sameControl (.refl s) (csrCommit_mem ..) (csrCommit_other ..) (csrCommit_sameSystem ..).1 rfl hpc
        (csrCommit_none_sameControl c rd s)
    | some v =>
      have hsame := csrCommit_some_sameControl c v rd s
      have hwritten := hhart.csrWrite (priv_machine_of_csrVerdict_write hc) c v
      exact hs.of_hart (.refl s) (csrCommit_mem ..) (csrCommit_other ..) (csrCommit_sameSystem ..).1
        (hsame.1.trans (Hart.csrWrite_id ..)) (hwritten.of_sameControl hpc hsame)
  | returns hx hpriv =>
    have hsame := (leaveTrap s).sameControl_retire
    refine hs.of_hart (.refl s) (State.retire_mem _) (State.retire_other _) (State.retire_plat _) hsame.1 ?_
    exact hhart.leaveTrap.of_sameControl ((State.retire_hart_pc _).symm ▸ hhart.leaveTrap.1) hsame
  | clearsStale =>
    obtain ⟨hmem, hother, hsystem, ePc, -⟩ := s.clearStale.finishes_eqs s.hart.regs (s.hart.pc + 4)
    exact hs.of_sameControl (.refl s) hmem hother hsystem.1 ePc hpc4
      (s.sameControl_clearStale.trans (State.sameControl_finishes ..))

theorem State.Inv.enterTrap (hs : s.Inv) (trap : Trap) : (enterTrap trap s).Inv :=
  hs.of_hart (.refl s) rfl rfl rfl rfl (hs.2.1.enterTrap trap)

theorem State.Inv.advance (hs : s.Inv) : s.advance.Inv := by
  obtain ⟨hwf, hhart, hother, hne⟩ := hs
  have hran := hhart.passCycle s.inputs.cycle
  have hid : (s.hart.passCycle s.inputs.cycle).id ≠ s.other.id := by rwa [Hart.passCycle_id]
  unfold State.advance State.nextTurn
  split
  · exact ⟨hwf, hran, hother, hid⟩
  · exact ⟨hwf, hother, hran, hid.symm⟩
  · exact ⟨hwf, hran, hother, hid⟩

end

/-- Settles O60: each thing that a step runs keeps the invariant, then the move to the next step does. -/
theorem stepKeepsInvariant : Obligations.StepKeepsInvariant := by
  intro s t hs h
  obtain ⟨u, rfl, ⟨irq, -, rfl⟩ | ⟨-, ⟨c, i, -, hi, hx⟩ | ⟨cause, rfl⟩⟩⟩ := step_next h
  · exact (hs.enterTrap _).advance
  · exact ((exec_ends hx).inv (wf_of_decode hi) hs).advance
  · exact (hs.enterTrap _).advance

end Sys2Proof.Machine
end

section
/-!
PROOF. What no instruction does: it leaves the other hart alone, no write of it goes unnoticed or past protection, and it changes the
privilege level, an M-mode register or the local monitor only in the ways that the spec names. Each is read off the ways to end.
-/

namespace Sys2Proof.Machine

/-! ### Memory and the other hart -/

theorem State.sameSystem.trans {s t u : State} (h : s.sameSystem t) (k : t.sameSystem u) : s.sameSystem u := by
  obtain ⟨h1, h2, h3, h4⟩ := h
  obtain ⟨k1, k2, k3, k4⟩ := k
  exact ⟨k1.trans h1, k2.trans h2, k3.trans h3, k4.trans h4⟩

section
variable {i : Instr} {s t : State}

/-- However an instruction ends, memory and the other hart are as after some stores, and it clears its held values only where memory
stays. -/
theorem Ends.stored (h : Ends i s t) :
    ∃ u, s.Stored u ∧ t.mem = u.mem ∧ t.other = u.other ∧ u.sameSystem t ∧ (t.mem = s.mem ∨ t.hart.stale = u.hart.stale) := by
  cases h with
  | finishes u regs pc hu hpc =>
    obtain ⟨hmem, hother, hsystem, -, hstale, -⟩ := u.finishes_eqs regs pc
    exact ⟨u, hu, hmem, hother, hsystem, .inr hstale⟩
  | traps u c hu => exact ⟨u, hu, rfl, rfl, ⟨rfl, rfl, rfl, rfl⟩, .inr rfl⟩
  | endsExclusive u regs hx hu =>
    obtain ⟨hmem, hother, hsystem, -, hstale, -⟩ := u.endExclusive.finishes_eqs regs (s.hart.pc + 4)
    exact ⟨u, hu, hmem, hother, hsystem, .inr hstale⟩
  | reserves a regs hx =>
    obtain ⟨hmem, hother, hsystem, -, hstale, -⟩ := (s.reserve a).finishes_eqs regs (s.hart.pc + 4)
    exact ⟨s, .refl s, hmem.trans (s.reserve_mem a), hother.trans (s.reserve_other a),
      (s.reserve_sameSystem a).trans hsystem, .inr (hstale.trans (s.reserve_stale a))⟩
  | accesses a c write rd hc =>
    exact ⟨s, .refl s, csrCommit_mem .., csrCommit_other .., csrCommit_sameSystem .., .inl (csrCommit_mem ..)⟩
  | returns hx hpriv =>
    exact ⟨s, .refl s, State.retire_mem _, State.retire_other _, by simp [State.sameSystem], .inl (State.retire_mem _)⟩
  | clearsStale =>
    exact ⟨s, .refl s, State.retire_mem _, State.retire_other _, by simp [State.sameSystem], .inl (State.retire_mem _)⟩

/-- A byte of memory that an instruction changes is one that protection lets it write, and no write goes unnoticed. -/
theorem Ends.noticed (h : Ends i s t) {a : Word} (hne : t.mem.byteAt a.toNat ≠ s.mem.byteAt a.toNat) :
    s.mem.byteAt a.toNat ∈ t.hart.heldValues a.toNat ∧ s.mem.byteAt a.toNat ∈ t.other.heldValues a.toNat ∧
      t.other.reservedAt s.plat a = false ∧ s.dataAllowed .write a = true := by
  obtain ⟨u, hu, hmem, hother, -, hstale⟩ := h.stored
  rcases hstale with hsame | hstale
  · exact absurd (by rw [hsame]) hne
  · have hheld : t.hart.heldValues a.toNat = u.hart.heldValues a.toNat := by rw [Hart.heldValues, hstale]; rfl
    rw [hheld, hother]
    exact hu.noticed a (hmem ▸ hne)

end

/-- Settles O56: the other hart is as after some stores, which change its held values and its reservation alone. -/
theorem otherHartKeeps : Obligations.OtherHartKeeps := by
  intro i s t h
  obtain ⟨u, hu, -, hother, hsystem, -⟩ := (exec_ends h).stored
  rw [hother, hu.other]
  exact ⟨fun _ => rfl, rfl, rfl, Hart.sameControl_refl s.other, rfl, hu.system.trans hsystem⟩

/-- Settles O57. -/
theorem writesAreNoticed : Obligations.WritesAreNoticed := by
  intro i s t a h hne
  obtain ⟨hhart, hother, hlost, -⟩ := (exec_ends h).noticed hne
  exact ⟨hhart, hother, hlost⟩

/-- Settles O13. -/
theorem zeroRegister : Obligations.ZeroRegister := ⟨State.reg_zero, State.setReg_zero, fun _ _ t _ => State.reg_zero t⟩

/-! ### The local monitor -/

/-- sc.w and the AMOs, as the statement lists them. -/
theorem exists_of_writesExclusively {i : Instr} (h : writesExclusively i = true) :
    ∃ rd rs1 rs2 aq rl, i ∈ [Instr.scW rd rs1 rs2 aq rl, .amoaddW rd rs1 rs2 aq rl, .amoandW rd rs1 rs2 aq rl,
      .amoorW rd rs1 rs2 aq rl, .amoxorW rd rs1 rs2 aq rl, .amoswapW rd rs1 rs2 aq rl, .amomaxW rd rs1 rs2 aq rl,
      .amomaxuW rd rs1 rs2 aq rl, .amominW rd rs1 rs2 aq rl, .amominuW rd rs1 rs2 aq rl] := by
  cases i with
  | scW rd rs1 rs2 aq rl | amoaddW rd rs1 rs2 aq rl | amoandW rd rs1 rs2 aq rl | amoorW rd rs1 rs2 aq rl
  | amoxorW rd rs1 rs2 aq rl | amoswapW rd rs1 rs2 aq rl | amomaxW rd rs1 rs2 aq rl | amomaxuW rd rs1 rs2 aq rl
  | amominW rd rs1 rs2 aq rl | amominuW rd rs1 rs2 aq rl => exact ⟨rd, rs1, rs2, aq, rl, by simp⟩
  | _ => cases h

/-- Where an instruction traps, after stores or none, the trap is taken at its own pc (60 R450). -/
theorem trap_of_stored {s u : State} (hu : s.Stored u) (c : Cause) :
    let k := (enterTrap (.exception c) u).hart
    k.mepc = s.hart.pc ∧ k.priv = .machine ∧ k.pc = s.hart.mtvec &&& 0xfffffffc ∧ k.mstatus.mpp = s.hart.priv ∧
      k.mstatus.mie = false ∧ k.localMonitor = false := by
  rw [enterTrap_hart, hu.hart]
  exact ⟨rfl, rfl, rfl, rfl, rfl, rfl⟩

/-- Settles O32: by the ways to end. -/
theorem localMonitorWriters : Obligations.LocalMonitorWriters := by
  intro i s t h hne
  have hends := exec_ends h
  cases hends with
  | finishes u regs pc hu hpc =>
    obtain ⟨-, -, -, -, -, hmonitor⟩ := u.finishes_eqs regs pc
    exact absurd (hmonitor.trans (by rw [hu.hart])) hne
  | traps u c hu =>
    obtain ⟨hmepc, hpriv, hpc, -, -, hclear⟩ := trap_of_stored hu c
    exact .inr ⟨hclear, .inl ⟨hmepc, hpriv, hpc⟩⟩
  | endsExclusive u regs hx hu =>
    obtain ⟨-, -, -, -, -, hmonitor⟩ := u.endExclusive.finishes_eqs regs (s.hart.pc + 4)
    exact .inr ⟨hmonitor, .inr (exists_of_writesExclusively hx)⟩
  | reserves a regs hx => exact .inl hx
  | accesses a c write rd hc => exact absurd (csrCommit_sameMonitors c write rd s).1 hne
  | returns hx hpriv => exact absurd (State.retire_hart_localMonitor _) hne
  | clearsStale => exact absurd (State.retire_hart_localMonitor _) hne

/-! ### Privilege -/

/-- An instruction changes what configures its hart only by a trap, by mret, or by the write of a CSR in M-mode. -/
theorem Ends.sameControl_or {i : Instr} {s t : State} (h : Ends i s t) :
    s.hart.sameControl t.hart ∨ (∃ u c, s.Stored u ∧ t = enterTrap (.exception c) u) ∨
      (s.hart.priv = .machine ∧ ((i = .mret ∧ t = (leaveTrap s).retire) ∨ t.hart.priv = .machine)) := by
  cases h with
  | finishes u regs pc hu hpc => exact .inl (hu.sameControl.trans (State.sameControl_finishes u regs pc))
  | traps u c hu => exact .inr (.inl ⟨u, c, hu, rfl⟩)
  | endsExclusive u regs hx hu =>
    exact .inl ((hu.sameControl.trans u.sameControl_endExclusive).trans (State.sameControl_finishes ..))
  | reserves a regs hx => exact .inl ((s.sameControl_reserve a).trans (State.sameControl_finishes ..))
  | accesses a c write rd hc =>
    cases write with
    | none => exact .inl (csrCommit_none_sameControl c rd s)
    | some v =>
      have hpriv := priv_machine_of_csrVerdict_write hc
      obtain ⟨-, ePriv, -⟩ := csrCommit_some_sameControl c v rd s
      exact .inr (.inr ⟨hpriv, .inr (by rw [ePriv, Hart.csrWrite_priv, hpriv])⟩)
  | returns hx hpriv => exact .inr (.inr ⟨hpriv, .inl ⟨hx, rfl⟩⟩)
  | clearsStale =>
    exact .inl (s.sameControl_clearStale.trans (s.clearStale.sameControl_finishes s.hart.regs (s.hart.pc + 4)))

/-- Settles O54. -/
theorem userModeKeepsControl : Obligations.UserModeKeepsControl := by
  intro i s t h huser huser'
  rcases (exec_ends h).sameControl_or with hsame | ⟨u, c, -, rfl⟩ | ⟨hmachine, -⟩
  · exact hsame
  · cases huser'
  · rw [huser] at hmachine
    cases hmachine

theorem Priv.eq_user_of_ne_machine {p : Priv} (h : p ≠ .machine) : p = .user := by
  cases p with
  | user => rfl
  | machine => exact absurd rfl h

/-- A change of the privilege level by an instruction, as the statement has it. -/
theorem exec_priv_ne {i : Instr} {s t : State} (h : exec i s = .next t) (hne : t.hart.priv ≠ s.hart.priv) :
    (i = .mret ∧ s.hart.priv = .machine ∧ s.hart.mstatus.mpp = .user) ∨
      (s.hart.priv = .user ∧ t.hart.priv = .machine ∧ t.hart.mepc = s.hart.pc ∧ t.hart.mstatus.mpp = .user ∧
        t.hart.mstatus.mie = false ∧ t.hart.pc = s.hart.mtvec &&& 0xfffffffc) := by
  rcases (exec_ends h).sameControl_or with ⟨-, ePriv, -⟩ | ⟨u, c, hu, rfl⟩ | ⟨hmachine, ⟨hi, rfl⟩ | hmachine'⟩
  · exact absurd ePriv hne
  · obtain ⟨hmepc, hpriv, hpc, hmpp, hmie, -⟩ := trap_of_stored hu c
    have huser : s.hart.priv = .user := Priv.eq_user_of_ne_machine fun e => hne (hpriv.trans e.symm)
    exact .inr ⟨huser, hpriv, hmepc, hmpp.trans huser, hmie, hpc⟩
  · refine .inl ⟨hi, hmachine, Priv.eq_user_of_ne_machine fun e => hne ?_⟩
    rw [State.retire_hart_priv, leaveTrap_hart, Hart.leaveTrap_priv, e, hmachine]
  · exact absurd (hmachine'.trans hmachine.symm) hne

/-! ### Between steps -/

/-- The hart that ran, after the move to the next step. -/
def State.ranHart (s : State) : Hart :=
  { s.hart with mcycle := if s.hart.mcountinhibit.getLsbD 0 then s.hart.mcycle else s.inputs.cycle }

theorem State.passCycle_eq_ranHart (s : State) : s.hart.passCycle s.inputs.cycle = s.ranHart := by
  unfold Hart.passCycle State.ranHart Hart.cycleStopped
  split
  · rfl
  · rfl

/-- Settles O8: by what `turns` says. -/
theorem advanceBetweenSteps : Obligations.AdvanceBetweenSteps := by
  intro s
  refine ⟨s.ranHart, rfl, ?_⟩
  unfold State.advance State.nextTurn
  rw [← State.passCycle_eq_ranHart]
  split
  all_goals
    next hturns =>
    rw [State.nextInputs_turns, State.countCycle_turns] at hturns
    simp [hturns]

/-- Which hart ran and which waited, after the move to the next step: the former is as `State.ranHart`, the latter as it was. -/
theorem State.advance_harts (s : State) :
    (if s.turns.head? = some true then s.advance.other else s.advance.hart) = s.ranHart ∧
      (if s.turns.head? = some true then s.advance.hart else s.advance.other) = s.other := by
  obtain ⟨_, rfl, -, -, -, -, -, hswap, hstay⟩ := advanceBetweenSteps s
  split
  · next h => exact (hswap h).symm
  · next h => exact hstay h

/-- What a step runs: it leaves `turns` and the waiting hart's level as they are. -/
theorem Ends.waiting {i : Instr} {s u : State} (h : Ends i s u) : u.turns = s.turns ∧ u.other.priv = s.other.priv := by
  obtain ⟨w, hw, -, hother, hsystem, -⟩ := h.stored
  refine ⟨(hw.system.trans hsystem).2.1, ?_⟩
  rw [hother, hw.other]

/-- Settles O53: an instruction by its ways to end; a step by what it runs. -/
theorem privilegeTransitions : Obligations.PrivilegeTransitions := by
  intro s t
  refine ⟨fun i h hne => exec_priv_ne h hne, fun h => ?_⟩
  obtain ⟨u, rfl, hu⟩ := step_next h
  have hkeeps : u.turns = s.turns ∧ u.other.priv = s.other.priv := by
    obtain ⟨irq, -, rfl⟩ | ⟨-, ⟨c, i, -, -, hx⟩ | ⟨cause, rfl⟩⟩ := hu
    · exact ⟨rfl, rfl⟩
    · exact (exec_ends hx).waiting
    · exact ⟨rfl, rfl⟩
  obtain ⟨hran, hwaits⟩ := u.advance_harts
  rw [hkeeps.1] at hran hwaits
  simp only [hran, hwaits]
  refine ⟨hkeeps.2, fun hne => ?_⟩
  obtain ⟨irq, hirq, rfl⟩ | ⟨hnone, ⟨c, i, hc, hi, hx⟩ | ⟨cause, rfl⟩⟩ := hu
  · have huser : s.hart.priv = .user := Priv.eq_user_of_ne_machine fun e => hne e.symm
    refine .inr ⟨huser, rfl, rfl, huser, rfl, fun hnone => ?_, fun irq' h' => ?_⟩
    · rw [hnone] at hirq
      cases hirq
    · rw [hirq] at h'
      cases h'
      rfl
  · rcases exec_priv_ne hx hne with ⟨rfl, hmachine, hmpp⟩ | ⟨huser, hpriv, hmepc, hmpp, hmie, hpc⟩
    · exact .inl ⟨hnone, ⟨c, hc, hi⟩, hmachine, hmpp⟩
    · refine .inr ⟨huser, hpriv, hmepc, hmpp, hmie, fun _ => hpc, fun irq h' => ?_⟩
      rw [hnone] at h'
      cases h'
  · have huser : s.hart.priv = .user := Priv.eq_user_of_ne_machine fun e => hne e.symm
    refine .inr ⟨huser, rfl, rfl, huser, rfl, fun _ => rfl, fun irq h' => ?_⟩
    rw [hnone] at h'
    cases h'

end Sys2Proof.Machine
end

section
/-!
PROOF. Physical memory protection: what U-mode may write, which entry decides, and which addresses an entry holds (20 R96, 60 R460; the
layout is PRESUMED, log 14). A NAPOT region is read off the trailing ones of the entry's register, bit by bit.
-/

namespace Sys2Proof.Machine

/-! ### Which entry decides an access -/

section
variable {plat : Platform} {h : Hart} {kind : PmpKind} {a : Word} {n : Fin 16}

/-- With no entry that holds the address, M-mode passes and U-mode does not. -/
theorem pmpAllows_of_none (hnone : ∀ n, pmpHolds plat h a n = false) (priv : Priv) :
    pmpAllows plat h priv kind a = (priv == .machine) := by
  have hdeciding := (pmpDeciding_eq_none plat h a pmpNumbers).mpr fun n _ => hnone n
  simp only [pmpAllows, hdeciding]

/-- The first entry that holds the address decides: its permission, or M-mode where it is not locked. -/
theorem pmpAllows_of_first (hn : pmpHolds plat h a n = true) (hbelow : ∀ m, m < n → pmpHolds plat h a m = false) (priv : Priv) :
    pmpAllows plat h priv kind a =
      ((priv == .machine && !pmpLocked (pmpCfgOf plat h n)) || pmpPermits (pmpCfgOf plat h n) kind) := by
  have hdeciding := pmpDeciding_first (mem_pmpNumbers n) pmpNumbers_rising hn hbelow
  simp only [pmpAllows, hdeciding]

/-- Either no entry holds the address, or some entry decides as above. -/
theorem pmpAllows_cases (plat : Platform) (h : Hart) (kind : PmpKind) (a : Word) :
    (∀ priv, pmpAllows plat h priv kind a = (priv == .machine)) ∨
      ∃ n, pmpHolds plat h a n = true ∧ ∀ priv, pmpAllows plat h priv kind a =
        ((priv == .machine && !pmpLocked (pmpCfgOf plat h n)) || pmpPermits (pmpCfgOf plat h n) kind) := by
  cases hdeciding : pmpDeciding plat h a pmpNumbers with
  | none => exact .inl fun priv => by simp only [pmpAllows, hdeciding]
  | some cfg =>
    obtain ⟨n, rfl, hn⟩ := pmpDeciding_some hdeciding
    exact .inr ⟨n, hn, fun priv => by simp only [pmpAllows, hdeciding]⟩

theorem pmpHolds_off (hoff : (pmpCfgOf plat h n).extractLsb' 3 2 = 0#2) : pmpHolds plat h a n = false := by
  rw [← Bool.not_eq_true]
  exact fun hholds => PmpEntry.matches_on hholds hoff

end

/-- The permission bits of a configuration, as the statement has them. -/
theorem pmpPermits_iff (cfg : Byte) (kind : PmpKind) :
    (match kind with
      | .read => cfg.getLsbD 0 = true
      | .write => cfg.getLsbD 1 = true
      | .readWrite => cfg.getLsbD 0 = true ∧ cfg.getLsbD 1 = true
      | .execute => cfg.getLsbD 2 = true) ↔ pmpPermits cfg kind = true := by
  cases kind with
  | readWrite => exact (Bool.and_eq_true_iff).symm
  | read | write | execute => exact Iff.rfl

/-! ### Which addresses an entry holds -/

/-- Two words agree from bit n upwards. -/
theorem toNat_div_two_pow_eq_iff {x y : Word} {n : Nat} :
    x.toNat / 2 ^ n = y.toNat / 2 ^ n ↔ ∀ i, n ≤ i → i < 32 → x.getLsbD i = y.getLsbD i := by
  constructor
  · intro e i hn _
    have hbit := congrArg (Nat.testBit · (i - n)) e
    simpa [Nat.testBit_div_two_pow, Nat.sub_add_cancel hn, BitVec.testBit_toNat] using hbit
  · intro hbits
    apply Nat.eq_of_testBit_eq
    intro i
    rw [Nat.testBit_div_two_pow, Nat.testBit_div_two_pow, BitVec.testBit_toNat, BitVec.testBit_toNat]
    by_cases hi : i + n < 32
    · exact hbits (i + n) (Nat.le_add_left n i) hi
    · rw [BitVec.getLsbD_of_ge _ _ (by omega), BitVec.getLsbD_of_ge _ _ (by omega)]

theorem toNat_shiftRight_two (a : Word) : (a >>> 2).toNat = a.toNat / 4 := by
  simp [BitVec.toNat_ushiftRight, Nat.shiftRight_eq_div_pow]

section
variable {grain : Nat} {e : PmpEntry} {a : Word}

theorem PmpEntry.matches_off (h : e.cfg.extractLsb' 3 2 = 0#2) : e.matches grain a = false := by
  rw [← Bool.not_eq_true]
  exact fun hholds => PmpEntry.matches_on hholds h

theorem PmpEntry.matches_tor_iff (h : e.cfg.extractLsb' 3 2 = 1#2) :
    e.matches grain a = true ↔
      4 * (e.low.toNat / 2 ^ grain * 2 ^ grain) ≤ a.toNat ∧ a.toNat < 4 * (e.addr.toNat / 2 ^ grain * 2 ^ grain) := by
  simp only [PmpEntry.matches, pmpMode, h, BitVec.ofNat_eq_ofNat, if_true, Bool.and_eq_true, decide_eq_true_eq, BitVec.le_def,
    BitVec.lt_def, toNat_shiftRight_two, toNat_pmpFloor]
  omega

theorem PmpEntry.matches_na4_iff (h : e.cfg.extractLsb' 3 2 = 2#2) :
    e.matches grain a = true ↔ a.toNat / 4 = e.addr.toNat := by
  simp [PmpEntry.matches, pmpMode, h, ← BitVec.toNat_inj, Nat.shiftRight_eq_div_pow]

/-- A NAPOT entry holds the words that agree with its register above the trailing ones and the 0 above them. -/
theorem PmpEntry.matches_napot_iff (h : e.cfg.extractLsb' 3 2 = 3#2) {k : Nat}
    (ones : ∀ j, j < k → (pmpNapot grain e.addr).getLsbD j = true) (zero : (pmpNapot grain e.addr).getLsbD k = false) :
    e.matches grain a = true ↔ (a >>> 2).toNat / 2 ^ (k + 1) = (pmpNapot grain e.addr).toNat / 2 ^ (k + 1) := by
  have hmatches : e.matches grain a = true ↔
      ((a >>> 2) ^^^ pmpNapot grain e.addr) &&& ~~~ (pmpNapot grain e.addr ^^^ (pmpNapot grain e.addr + 1)) = 0 := by
    simp [PmpEntry.matches, pmpMode, h]
  rw [hmatches, toNat_div_two_pow_eq_iff, BitVec.eq_of_getLsbD_eq_iff]
  refine forall_congr' fun i => ?_
  rw [forall_comm (p := fun _ _ => _)]
  refine forall_congr' fun hi => ?_
  rw [BitVec.getLsbD_and, BitVec.getLsbD_not, getLsbD_xor_succ ones zero hi, BitVec.getLsbD_xor]
  by_cases hik : i ≤ k
  · simp [hik, show ¬ k + 1 ≤ i by omega]
  · simp [hik, hi, show k + 1 ≤ i by omega]

/-- The register of a NAPOT entry in which every bit is a 1, with the bits below the grain, holds every address. -/
theorem PmpEntry.matches_napot_all (h : e.cfg.extractLsb' 3 2 = 3#2)
    (ones : ∀ j, j < 32 → (pmpNapot grain e.addr).getLsbD j = true) : e.matches grain a = true := by
  have hall : pmpNapot grain e.addr = BitVec.allOnes 32 := by
    apply BitVec.eq_of_getLsbD_eq
    intro j hj
    rw [ones j hj, BitVec.getLsbD_allOnes, decide_eq_true hj]
  simp [PmpEntry.matches, pmpMode, h, hall]

end

/-- Settles O55: what changes memory is noticed as allowed; the first entry that holds the address decides; the regions by mode; the
entries by number. -/
theorem userStoresProtected : Obligations.UserStoresProtected := by
  refine ⟨?stores, ?decides, ?regions, ?entries⟩
  case stores =>
    intro i s t a h huser hmprv hne
    obtain ⟨-, -, -, hallowed⟩ := (exec_ends h).noticed hne
    simpa [State.dataAllowed, Hart.dataPriv, huser, hmprv] using hallowed
  case decides =>
    intro plat h kind a cfg permits holds
    have hpermits (n : Fin 16) : permits n ↔ pmpPermits (cfg n) kind = true := pmpPermits_iff (cfg n) kind
    refine ⟨fun hoff => ?off, fun huser => ?user, fun hmachine => ?machine, fun n hn hbelow => ?first⟩
    case off =>
      have hnone := pmpAllows_of_none (kind := kind) (a := a) fun n => pmpHolds_off (hoff n)
      exact ⟨hnone .machine, hnone .user⟩
    case user =>
      rcases pmpAllows_cases plat h kind a with hnone | ⟨n, hn, hdecides⟩
      · rw [hnone] at huser
        cases huser
      · exact ⟨n, PmpEntry.matches_on hn, (hpermits n).mpr (by simpa [hdecides] using huser)⟩
    case machine =>
      rcases pmpAllows_cases plat h kind a with hnone | ⟨n, hn, hdecides⟩
      · rw [hnone] at hmachine
        cases hmachine
      · obtain ⟨hlocked, hdenied⟩ : pmpLocked (cfg n) = true ∧ pmpPermits (cfg n) kind = false := by
          simpa [hdecides] using hmachine
        exact ⟨n, PmpEntry.matches_on hn, hlocked, fun hp => by simp [(hpermits n).mp hp] at hdenied⟩
    case first =>
      have hdecides := pmpAllows_of_first (kind := kind) hn hbelow
      rw [hdecides, hdecides, hpermits]
      simp [pmpLocked, cfg]
  case regions =>
    intro grain e a
    refine ⟨PmpEntry.matches_off, PmpEntry.matches_tor_iff, PmpEntry.matches_na4_iff, fun hmode k hk hones hzero => ?_⟩
    have ones (j : Nat) (hj : j < k) : (pmpNapot grain e.addr).getLsbD j = true := by
      rw [getLsbD_pmpNapot grain e.addr (by omega)]
      rcases hones j hj with hgrain | hbit
      · simp [hgrain]
      · simp [hbit]
    rcases Nat.lt_or_eq_of_le hk with hk | rfl
    · obtain ⟨hgrain, hbit⟩ := hzero hk
      have zero : (pmpNapot grain e.addr).getLsbD k = false := by
        rw [getLsbD_pmpNapot grain e.addr hk, hbit]
        simp [hgrain]
      have habove : (pmpNapot grain e.addr).toNat / 2 ^ (k + 1) = e.addr.toNat / 2 ^ (k + 1) := by
        refine toNat_div_two_pow_eq_iff.mpr fun i hi hi32 => ?_
        rw [getLsbD_pmpNapot grain e.addr hi32]
        simp [show ¬ i + 1 < grain by omega]
      have hpow : 2 ^ (k + 3) = 4 * 2 ^ (k + 1) := by rw [Nat.pow_add 2 k 3, Nat.pow_succ]; omega
      rw [PmpEntry.matches_napot_iff hmode ones zero, habove, toNat_shiftRight_two, Nat.div_div_eq_div_mul, hpow]
    · have ha := a.isLt
      have haddr := e.addr.isLt
      simp only [PmpEntry.matches_napot_all hmode ones, true_iff]
      omega
  case entries =>
    intro plat h n m
    refine ⟨fun hlt => ?_, fun f hge hf => ?_, fun hge hf => ?_, rfl, fun hnm => ?_⟩
    · simp [pmpCfgOf, pmpAddrOf, pmpEntry, hlt]
    · simp [pmpCfgOf, pmpAddrOf, pmpEntry, Nat.not_lt.mpr hge, hf]
    · simp [pmpCfgOf, pmpAddrOf, pmpEntry, Nat.not_lt.mpr hge, hf]
    · have hpos : n ≠ 0 := by rintro rfl; simp at hnm
      have hpred : n - 1 = m := by omega
      rw [pmpLowOf, if_neg hpos, hpred]

end Sys2Proof.Machine
end

section
/-!
PROOF. The instructions that compute (40, 41, 43, 45, 46, 48). An instruction that ends with `finishAt` or `finish` after register writes
leaves everything else as it was; what remains for each instruction is that its value is the one that the statement writes out.
-/

namespace Sys2Proof.Machine

/-! ### The end of an instruction that writes registers -/

section
variable (s : State)

/-- Registers written, the pc, the count, and nothing else. -/
theorem finishAt_writesRegs {u : State} {regs : Vector Word 31} (hu : u = s.withRegs regs) {f : RegIdx → Word}
    (hf : ∀ q, u.reg q = f q) (pc : Word) : WritesRegs (finishAt pc u) s f pc := by
  subst hu
  refine ⟨_, rfl, fun q => (State.retire_reg ..).trans (hf q), State.retire_hart_pc _, State.retire_hart_minstret _,
    State.sameControl_finishes s regs pc, ?_⟩
  unfold State.retire
  split <;> exact ⟨⟨rfl, rfl⟩, rfl, rfl, fun _ => rfl, rfl, rfl, rfl, rfl⟩

theorem finish_writesRegs {u : State} {regs : Vector Word 31} (hu : u = s.withRegs regs) {f : RegIdx → Word}
    (hf : ∀ q, u.reg q = f q) (len : Word) : WritesRegs (finish len u) s f (s.hart.pc + len) := by
  have hpc : u.hart.pc = s.hart.pc := by rw [hu]; rfl
  rw [← hpc]
  exact finishAt_writesRegs s hu hf _

theorem finish_keepsRegs (len : Word) : WritesRegs (finish len s) s s.reg (s.hart.pc + len) :=
  finish_writesRegs s (regs := s.hart.regs) rfl (fun _ => rfl) len

theorem finishAt_keepsRegs (pc : Word) : WritesRegs (finishAt pc s) s s.reg pc :=
  finishAt_writesRegs s (regs := s.hart.regs) rfl (fun _ => rfl) pc

theorem State.reg_setReg_eq_regsWith (rd : RegIdx) (v : Word) (q : RegIdx) : (s.setReg rd v).reg q = s.regsWith rd v q :=
  s.reg_setReg rd q v

theorem writeReg_writesReg (len : Word) (rd : RegIdx) (v : Word) : WritesReg (writeReg len rd v s) s rd v (s.hart.pc + len) :=
  finish_writesRegs s (s.setReg_eq_withRegs rd v) (s.reg_setReg_eq_regsWith rd v) len

theorem jumpAndLink_writesReg (len : Word) (rd : RegIdx) (target : Word) :
    WritesReg (jumpAndLink len rd target s) s rd (s.hart.pc + len) target :=
  finishAt_writesRegs s (s.setReg_eq_withRegs rd _) (s.reg_setReg_eq_regsWith rd _) target

theorem branch_keepsRegs (len : Word) {taken : Bool} {p : Prop} [Decidable p] (hp : taken = true ↔ p) (offset : Word) :
    WritesRegs (branch len taken offset s) s s.reg (if p then s.hart.pc + offset else s.hart.pc + len) := by
  unfold branch
  by_cases h : p
  · rw [if_pos h, if_pos (hp.mpr h)]
    exact finishAt_keepsRegs s _
  · rw [if_neg h, if_neg (mt hp.mp h)]
    exact finish_keepsRegs s len

/-- A write to x0 has no value. -/
theorem State.regsWith_zero (v : Word) : s.regsWith 0 v = s.reg := by
  funext q
  simp [State.regsWith]

/-- An instruction that is `writeReg` of its length computes the value. -/
theorem computes_of_exec {i : Instr} {rd : RegIdx} {v w : Word} (hx : exec i s = writeReg (BitVec.ofNat 32 i.length) rd w s)
    (hw : w = v) : Computes i s rd v := by
  rw [Computes, hx, hw]
  exact writeReg_writesReg s _ rd v

end

/-! ### Values: shifts, comparisons, extensions -/

theorem shiftAmount_eq (v : Word) : shiftAmount v = v.toNat % 32 := by
  simp [shiftAmount, BitVec.extractLsb'_toNat]

theorem lessSigned_iff {a b : Word} : lessSigned a b = true ↔ a.toInt < b.toInt := by
  simp [lessSigned, BitVec.slt]

theorem lessUnsigned_iff {a b : Word} : lessUnsigned a b = true ↔ a.toNat < b.toNat := by
  simp [lessUnsigned, BitVec.ult]

theorem truthWord_eq_ite {b : Bool} {p : Prop} [Decidable p] (h : b = true ↔ p) : truthWord b = if p then 1 else 0 := by
  simp only [truthWord, h]

theorem toInt_signExtend (imm : BitVec 12) : (signExtend imm).toInt = imm.toInt :=
  BitVec.toInt_signExtend_of_le (by decide)

theorem maxSigned_eq (a b : Word) : maxSigned a b = if a.toInt < b.toInt then b else a := by
  simp only [maxSigned, lessSigned_iff]

theorem maxUnsigned_eq (a b : Word) : maxUnsigned a b = if a.toNat < b.toNat then b else a := by
  simp only [maxUnsigned, lessUnsigned_iff]

theorem minSigned_eq (a b : Word) : minSigned a b = if a.toInt < b.toInt then a else b := by
  simp only [minSigned, lessSigned_iff]

theorem minUnsigned_eq (a b : Word) : minUnsigned a b = if a.toNat < b.toNat then a else b := by
  simp only [minUnsigned, lessUnsigned_iff]

theorem extractLsb'_zero_eq_setWidth (a : Word) (n : Nat) : a.extractLsb' 0 n = a.setWidth n :=
  (setWidth_ushiftRight_eq_extractLsb' a 0 n).symm

/-! ### Computation of RV32I -/

/-- Settles O14. -/
theorem registerArithmetic : Obligations.RegisterArithmetic := by
  intro s rd rs1 rs2
  have hshift := shiftAmount_eq (s.reg rs2)
  refine ⟨computes_of_exec s rfl rfl, computes_of_exec s rfl rfl, computes_of_exec s rfl rfl, computes_of_exec s rfl rfl,
    computes_of_exec s rfl rfl, computes_of_exec s rfl ?sll, computes_of_exec s rfl ?srl, computes_of_exec s rfl ?sra,
    computes_of_exec s rfl (truthWord_eq_ite lessSigned_iff), computes_of_exec s rfl (truthWord_eq_ite lessUnsigned_iff)⟩
  all_goals rw [hshift]
  rfl

/-- Settles O15. -/
theorem immediateArithmetic : Obligations.ImmediateArithmetic := by
  intro s rd rs1 imm shamt upper
  refine ⟨computes_of_exec s rfl rfl, computes_of_exec s rfl rfl, computes_of_exec s rfl rfl, computes_of_exec s rfl rfl,
    computes_of_exec s rfl (truthWord_eq_ite ?_), computes_of_exec s rfl (truthWord_eq_ite lessUnsigned_iff),
    computes_of_exec s rfl rfl, computes_of_exec s rfl rfl, computes_of_exec s rfl rfl, computes_of_exec s rfl rfl,
    computes_of_exec s rfl rfl⟩
  rw [lessSigned_iff, toInt_signExtend]

/-! ### Control transfer -/

/-- Settles O16. -/
theorem branches : Obligations.Branches := by
  intro s rs1 rs2 offset goes
  refine ⟨branch_keepsRegs s 4 beq_iff_eq _, branch_keepsRegs s 4 bne_iff_ne _, branch_keepsRegs s 4 lessSigned_iff _,
    branch_keepsRegs s 4 ?bge _, branch_keepsRegs s 4 lessUnsigned_iff _, branch_keepsRegs s 4 ?bgeu _⟩
  case bge => rw [Bool.not_eq_true', ← Bool.not_eq_true, lessSigned_iff, not_lt]
  case bgeu => rw [Bool.not_eq_true', ← Bool.not_eq_true, lessUnsigned_iff, not_lt]

/-- Settles O17. -/
theorem jumps : Obligations.Jumps := fun s rd _ _ _ => ⟨jumpAndLink_writesReg s 4 rd _, jumpAndLink_writesReg s 4 rd _⟩

/-! ### The 16-bit forms -/

/-- Settles O34: c.j and c.jr link to x0, which has no value; the branches compare with x0. -/
theorem compressedControl : Obligations.CompressedControl := by
  intro s r c offset near
  have hlink (target : Word) : WritesRegs (jumpAndLink 2 0 target s) s s.reg target := by
    have h := jumpAndLink_writesReg s 2 0 target
    rwa [WritesReg, State.regsWith_zero] at h
  have hzero : s.reg 0 = 0 := s.reg_zero
  rw [← cReg_eq_add]
  refine ⟨jumpAndLink_writesReg s 2 ra _, hlink _, hlink _, jumpAndLink_writesReg s 2 ra _, branch_keepsRegs s 2 ?beqz _,
    branch_keepsRegs s 2 ?bnez _⟩
  case beqz => rw [beq_iff_eq, hzero]
  case bnez => rw [bne_iff_ne, hzero]

theorem cUpperImmediate_eq (imm : BitVec 6) : cUpperImmediate imm = imm.signExtend 20 ++ 0#12 := by
  revert imm
  decide

theorem and_0xff_eq (a : Word) : a &&& 0xff = (a.setWidth 8).setWidth 32 := by
  apply BitVec.eq_of_toNat_eq
  have hmod : a.toNat &&& (0xff : Word).toNat = a.toNat % 2 ^ 8 := Nat.and_two_pow_sub_one_eq_mod a.toNat 8
  simp only [BitVec.toNat_and, BitVec.toNat_setWidth]
  omega

theorem xor_signExtend_ones (a : Word) : a ^^^ signExtend 0xfff#12 = ~~~ a := by
  have hones : signExtend 0xfff#12 = BitVec.allOnes 32 := by decide
  rw [hones, BitVec.xor_allOnes]

/-- Settles O33: each expansion, with the register of a three-bit field written out. -/
theorem compressedArithmetic : Obligations.CompressedArithmetic := by
  intro s rd rs2 cd c2 imm shamt spn spadj d a b
  have hd : d = cReg cd := (cReg_eq_add cd).symm
  have hb : b = s.reg (cReg c2) := by rw [cReg_eq_add]
  have ha : a = s.reg (cReg cd) := by rw [← hd]
  rw [hd, ha, hb]
  have hzero : s.reg 0 = 0#32 := s.reg_zero
  have hbyte := extractLsb'_zero_eq_setWidth (s.reg (cReg cd)) 8
  have hhalf := extractLsb'_zero_eq_setWidth (s.reg (cReg cd)) 16
  refine ⟨computes_of_exec s rfl rfl, ?nop, computes_of_exec s rfl rfl, computes_of_exec s rfl ?li, computes_of_exec s rfl rfl,
    computes_of_exec s rfl (cUpperImmediate_eq imm), computes_of_exec s rfl rfl, computes_of_exec s rfl rfl, computes_of_exec s rfl rfl,
    computes_of_exec s rfl rfl, computes_of_exec s rfl rfl, computes_of_exec s rfl rfl, computes_of_exec s rfl rfl,
    computes_of_exec s rfl rfl, computes_of_exec s rfl ?mv, computes_of_exec s rfl rfl, computes_of_exec s rfl (and_0xff_eq _),
    computes_of_exec s rfl (congrArg _ hbyte), computes_of_exec s rfl (congrArg _ hhalf), computes_of_exec s rfl (congrArg _ hhalf),
    computes_of_exec s rfl (xor_signExtend_ones _), computes_of_exec s rfl ?mul⟩
  case nop =>
    have h := writeReg_writesReg s 2 0 (s.reg 0 + signExtend imm)
    rw [WritesReg, State.regsWith_zero, ← State.regsWith_zero s 0] at h
    exact h
  case li => rw [hzero, BitVec.zero_add]; rfl
  case mv => rw [hzero, BitVec.zero_add]
  case mul => exact BitVec.mul_def

/-! ### Bit manipulation -/

theorem shiftLeft_eq_mul (a : Word) (n : Nat) : a <<< n = BitVec.ofNat 32 (2 ^ n) * a := by
  apply BitVec.eq_of_toNat_eq
  simp [Nat.shiftLeft_eq, Nat.mul_comm]

/-- Settles O35. -/
theorem bitManipulationArithmetic : Obligations.BitManipulationArithmetic := by
  intro s rd rs1 rs2 a b
  have hshift (n : Nat) : b + a <<< n = b + BitVec.ofNat 32 (2 ^ n) * a := congrArg (b + ·) (shiftLeft_eq_mul a n)
  have hbyte := extractLsb'_zero_eq_setWidth a 8
  have hhalf := extractLsb'_zero_eq_setWidth a 16
  exact ⟨computes_of_exec s rfl (hshift 1), computes_of_exec s rfl (hshift 2), computes_of_exec s rfl (hshift 3),
    computes_of_exec s rfl rfl, computes_of_exec s rfl rfl, computes_of_exec s rfl rfl, computes_of_exec s rfl (maxSigned_eq a b),
    computes_of_exec s rfl (maxUnsigned_eq a b), computes_of_exec s rfl (minSigned_eq a b), computes_of_exec s rfl (minUnsigned_eq a b),
    computes_of_exec s rfl (congrArg _ hbyte), computes_of_exec s rfl (congrArg _ hhalf), computes_of_exec s rfl (congrArg _ hhalf)⟩

/-! ### Multiplication -/

/-- The upper word of an integer held in 64 bits. -/
theorem upperWord_ofInt (z : Int) : upperWord (BitVec.ofInt 64 z) = BitVec.ofInt 32 (z / 2 ^ 32) := by
  apply BitVec.eq_of_toNat_eq
  simp only [upperWord, BitVec.extractLsb'_toNat, BitVec.toNat_ofInt, Nat.shiftRight_eq_div_pow]
  omega

theorem setWidth_64_eq_ofInt (a : Word) : a.setWidth 64 = BitVec.ofInt 64 (a.toNat : Int) := by
  apply BitVec.eq_of_toNat_eq
  simp only [BitVec.toNat_setWidth, BitVec.toNat_ofInt]
  omega

theorem mulHighSigned_eq (a b : Word) : mulHighSigned a b = BitVec.ofInt 32 (a.toInt * b.toInt / 2 ^ 32) := by
  rw [mulHighSigned, BitVec.signExtend, BitVec.signExtend, ← BitVec.ofInt_mul, upperWord_ofInt]

theorem mulHighSignedUnsigned_eq (a b : Word) :
    mulHighSignedUnsigned a b = BitVec.ofInt 32 (a.toInt * (b.toNat : Int) / 2 ^ 32) := by
  rw [mulHighSignedUnsigned, BitVec.signExtend, setWidth_64_eq_ofInt, ← BitVec.ofInt_mul, upperWord_ofInt]

theorem mulHighUnsigned_eq (a b : Word) : mulHighUnsigned a b = BitVec.ofNat 32 (a.toNat * b.toNat / 2 ^ 32) := by
  rw [mulHighUnsigned, setWidth_64_eq_ofInt, setWidth_64_eq_ofInt, ← BitVec.ofInt_mul, upperWord_ofInt, ← BitVec.ofInt_natCast]
  push_cast
  rfl

/-- Settles O26. -/
theorem multiplications : Obligations.Multiplications := fun s _ _ _ =>
  ⟨computes_of_exec s rfl BitVec.mul_def, computes_of_exec s rfl (mulHighSigned_eq _ _),
    computes_of_exec s rfl (mulHighSignedUnsigned_eq _ _), computes_of_exec s rfl (mulHighUnsigned_eq _ _)⟩

/-! ### Division -/

/-- The quotient that overflows wraps to the dividend (43 R241). -/
theorem divSigned_eq (a b : Word) :
    divSigned a b = if b = 0 then 0xffffffff else if a = 0x80000000 ∧ b = 0xffffffff then 0x80000000
      else BitVec.ofInt 32 (a.toInt.tdiv b.toInt) := by
  unfold divSigned
  refine ite_congr rfl (fun _ => rfl) fun _ => ?_
  split
  · next h => obtain ⟨rfl, rfl⟩ := h; decide
  · rfl

theorem remSigned_eq (a b : Word) :
    remSigned a b = if b = 0 then a else if a = 0x80000000 ∧ b = 0xffffffff then 0
      else BitVec.ofInt 32 (a.toInt.tmod b.toInt) := by
  unfold remSigned
  refine ite_congr rfl (fun _ => rfl) fun _ => ?_
  split
  · next h => obtain ⟨rfl, rfl⟩ := h; decide
  · rfl

theorem divUnsigned_eq (a b : Word) : divUnsigned a b = if b = 0 then 0xffffffff else a / b := by
  rw [divUnsigned, BitVec.udiv_def]

theorem remUnsigned_eq (a b : Word) : remUnsigned a b = if b = 0 then a else a % b := by
  rw [remUnsigned, BitVec.umod_def]

/-- Settles O27. -/
theorem divisions : Obligations.Divisions := fun s _ _ _ =>
  ⟨computes_of_exec s rfl (divSigned_eq _ _), computes_of_exec s rfl (remSigned_eq _ _), computes_of_exec s rfl (divUnsigned_eq _ _),
    computes_of_exec s rfl (remUnsigned_eq _ _)⟩

/-! ### The moves of Zcmp -/

/-- The register of an s field, as the statement lists them (30 R125). -/
theorem sReg_eq_getD (n : SReg) : sReg n = ([8, 9, 18, 19, 20, 21, 22, 23] : List RegIdx).getD n.toNat 0 := by
  revert n
  decide

theorem sReg_ne_zero (n : SReg) : sReg n ≠ 0#5 := by
  revert n
  decide

theorem sReg_injective {m n : SReg} : sReg m = sReg n → m = n := by
  revert m n
  decide

theorem State.setReg_withRegs {s u : State} {regs : Vector Word 31} (hu : u = s.withRegs regs) (r : RegIdx) (v : Word) :
    u.setReg r v = s.withRegs (u.setReg r v).hart.regs := by
  subst hu
  exact State.setReg_eq_withRegs _ r v

/-- Two registers written, in turn. -/
theorem finish_two_writesRegs (s : State) (r q : RegIdx) (v w : Word) (len : Word) {f : RegIdx → Word}
    (hf : ∀ x, ((s.setReg r v).setReg q w).reg x = f x) :
    WritesRegs (finish len ((s.setReg r v).setReg q w)) s f (s.hart.pc + len) :=
  finish_writesRegs s (State.setReg_withRegs (s.setReg_eq_withRegs r v) q w) hf len

/-- Settles O42: of two different s registers neither write hides the other. -/
theorem zcmpMoves : Obligations.ZcmpMoves := by
  intro s r1s r2s reg
  have hreg (n : SReg) : reg n = sReg n := (sReg_eq_getD n).symm
  simp only [hreg]
  constructor
  · intro hne
    refine finish_two_writesRegs s _ _ _ _ 2 fun q => ?_
    have hsne : sReg r1s ≠ sReg r2s := mt sReg_injective hne
    simp only [State.reg_setReg, sReg_ne_zero, ne_eq, not_false_eq_true, and_true]
    by_cases h1 : q = sReg r1s
    · rw [if_pos h1, if_pos h1, if_neg (h1 ▸ hsne)]
      rfl
    · rw [if_neg h1, if_neg h1]
      rfl
  · refine finish_two_writesRegs s _ _ _ _ 2 fun q => ?_
    have ha0 : a0 ≠ 0#5 := by decide
    have ha1 : a1 ≠ 0#5 := by decide
    simp only [State.reg_setReg, ha0, ha1, ne_eq, not_false_eq_true, and_true]
    by_cases h1 : q = a0
    · subst h1
      rfl
    · rw [if_neg h1]
      exact (if_neg h1).symm

/-! ### Fences -/

/-- Settles O43. -/
theorem fencesAndWait : Obligations.FencesAndWait := by
  intro s fm pred succ rs1 rd imm
  refine ⟨finish_keepsRegs s 4, finish_keepsRegs s 4, fun hlegal => ?wfi, ?fenceI⟩
  case wfi =>
    have hpasses : (s.hart.priv = .user && s.hart.mstatus.tw) = false := by
      rcases hlegal with h | h <;> simp [h]
    have hx : exec .wfi s = finish 4 s := by
      change execWfi s = finish 4 s
      unfold execWfi
      rw [hpasses]
      rfl
    rw [hx]
    exact finish_keepsRegs s 4
  case fenceI =>
    refine ⟨_, rfl, fun x => Hart.heldValues_nil (by simp) x, fun q => State.retire_reg _ q, State.retire_hart_pc _,
      State.retire_hart_minstret _, ?_⟩
    unfold State.retire
    split <;> exact ⟨Hart.sameControl_refl s.hart, ⟨rfl, rfl⟩, rfl, rfl, rfl, rfl, rfl, rfl⟩

end Sys2Proof.Machine
end

section
/-!
PROOF. Loads, stores and exclusive accesses (42, 44, 45, 48; 20 R83, R84, R91, R92). An access whose checks pass does what its body
does; a body that stores leaves what the store leaves, and the end of the instruction changes none of it.
-/

namespace Sys2Proof.Machine

/-! ### The checks -/

section
variable {s : State} {a : Word} {n : Nat}

theorem guarded_of_allowed {v : Verdict} (h : v = .allowed) (s : State) (body : Result) : guarded v s body = body := by
  rw [h]
  rfl

theorem State.loadVerdict_of_canLoad (h : s.canLoad n a) : s.loadVerdict n a = .allowed := (State.verdict_allowed_iff ..).mpr h

theorem State.storeVerdict_of_canStore (h : s.canStore n a) : s.storeVerdict n a = .allowed :=
  (State.verdict_allowed_iff ..).mpr h

theorem State.amoVerdict_of_canUpdate (h : s.canUpdate a) : s.amoVerdict a = .allowed := by
  obtain ⟨ha, hpermits, hbus, hexclusive⟩ := h
  exact (s.amoVerdict_allowed_iff a).mpr ⟨(State.verdict_allowed_iff ..).mpr ⟨ha, hpermits, hbus⟩, hexclusive⟩

theorem State.canUpdate.dataAllowed (h : s.canUpdate a) : s.dataAllowed .write a = true := pmpAllows_write_of_readWrite h.2.1

/-- An aligned access that protection or the bus turns down. -/
theorem State.verdict_of_denied {k : Access} {kind : PmpKind} (ha : a.toNat % n = 0)
    (hdenied : s.dataAllowed kind a = false ∨ s.plat.busFault k a = true) (m d : Cause) :
    s.verdict k kind n m d a = .trap d := by
  unfold State.verdict
  rw [if_neg (not_not.mpr ha), if_pos (by simpa using hdenied)]

theorem State.amoVerdict_of_denied (ha : a.toNat % 4 = 0)
    (hdenied : s.dataAllowed .readWrite a = false ∨ s.plat.busFault .exclusive a = true ∨ s.plat.supportsExclusive a = false) :
    s.amoVerdict a = .trap .storeFault := by
  unfold State.amoVerdict State.exclusiveVerdict
  by_cases hpasses : s.dataAllowed .readWrite a = true ∧ s.plat.busFault .exclusive a = false
  · rw [(State.verdict_allowed_iff ..).mpr ⟨ha, hpasses⟩]
    obtain ⟨hallowed, hbus⟩ := hpasses
    have hexclusive : s.plat.supportsExclusive a = false := by simpa [hallowed, hbus] using hdenied
    simp [hexclusive]
  · have : s.dataAllowed .readWrite a = false ∨ s.plat.busFault .exclusive a = true := by
      rw [not_and_or] at hpasses
      simpa using hpasses
    rw [State.verdict_of_denied ha this]

end

/-! ### What a read returns -/

section
variable (s : State) {a : Word}

theorem State.load8_eq_byteRead (a : Word) : s.load8 a = s.byteRead a := by
  rw [State.load8, State.byteRead, extractLsb'_zero_eq_setWidth]
  rfl

theorem State.load16_eq_halfRead (ha : a.toNat % 2 = 0) : s.load16 a = s.halfRead a := by
  have hnext : (a + 1).toNat = a.toNat + 1 := by bv_omega
  rw [State.load16, State.halfRead, extractLsb'_zero_eq_setWidth, State.halfAt, ← hnext]
  rfl

theorem Memory.read32_eq_wordAt (ha : a.toNat % 4 = 0) : s.mem.read32 a = s.wordAt a := by
  have h1 : (a + 1).toNat = a.toNat + 1 := by bv_omega
  have h2 : (a + 2).toNat = a.toNat + 2 := by bv_omega
  have h3 : (a + 3).toNat = a.toNat + 3 := by bv_omega
  rw [State.wordAt, ← h1, ← h2, ← h3]
  rfl

theorem State.load32_eq_wordRead (ha : a.toNat % 4 = 0) : s.load32 a = s.wordRead a := by
  rw [State.load32, State.wordRead, Memory.read32_eq_wordAt s ha]

end

/-! ### Loads -/

/-- An instruction that loads, of its own length, where its check passes. -/
theorem computes_of_load {i : Instr} {s : State} {v : Verdict} {x y : Word} {rd : RegIdx} (hv : v = .allowed)
    (hx : exec i s = guarded v s (writeReg (BitVec.ofNat 32 i.length) rd x s)) (hvalue : x = y) : Computes i s rd y :=
  computes_of_exec s (hx.trans (guarded_of_allowed hv s _)) hvalue

/-- Settles O18. -/
theorem loads : Obligations.Loads := by
  intro s rd rs1 imm a
  refine ⟨fun h => ?byte, fun h => ?half, fun h => ?word⟩
  case byte =>
    have hv := State.loadVerdict_of_canLoad h
    have hread := s.load8_eq_byteRead a
    exact ⟨computes_of_load hv rfl (congrArg _ hread), computes_of_load hv rfl (congrArg _ hread)⟩
  case half =>
    have hv := State.loadVerdict_of_canLoad h
    have hread := s.load16_eq_halfRead h.1
    exact ⟨computes_of_load hv rfl (congrArg _ hread), computes_of_load hv rfl (congrArg _ hread)⟩
  case word => exact computes_of_load (State.loadVerdict_of_canLoad h) rfl (s.load32_eq_wordRead h.1)

/-- Settles O20. -/
theorem compressedLoads : Obligations.CompressedLoads := by
  intro s rd rs1 r word stack near a w p
  have ha : a = s.reg (cReg rs1) + zeroExtend near := by rw [cReg_eq_add]; rfl
  have hw : w = s.reg (cReg rs1) + zeroExtend word := by rw [cReg_eq_add]; rfl
  rw [← cReg_eq_add]
  refine ⟨fun h => ?byte, fun h => ?half, fun h => ?word, fun h => ?stack⟩
  case byte =>
    rw [ha] at h ⊢
    exact computes_of_load (State.loadVerdict_of_canLoad h) rfl (congrArg _ (s.load8_eq_byteRead _))
  case half =>
    rw [ha] at h ⊢
    have hv := State.loadVerdict_of_canLoad h
    have hread := s.load16_eq_halfRead h.1
    exact ⟨computes_of_load hv rfl (congrArg _ hread), computes_of_load hv rfl (congrArg _ hread)⟩
  case word =>
    rw [hw] at h ⊢
    exact computes_of_load (State.loadVerdict_of_canLoad h) rfl (s.load32_eq_wordRead h.1)
  case stack => exact computes_of_load (State.loadVerdict_of_canLoad h) rfl (s.load32_eq_wordRead h.1)

/-! ### The end of an instruction that stores -/

section
variable {s t u : State} {device : Bool} {new : Nat → Option Byte}

/-- What was stored shows in memory, in the held values and in the other hart. -/
theorem State.storesInto.congr (h : s.storesInto u device new) (hmem : t.mem = u.mem) (hstale : t.hart.stale = u.hart.stale)
    (hother : t.other = u.other) : s.storesInto t device new := by
  have hheld : s.hart.remembers s new t.hart := fun x => by
    rw [Hart.heldValues, hstale]
    exact h.2.1 x
  unfold State.storesInto at h ⊢
  rw [hmem, hother]
  exact ⟨h.1, hheld, h.2.2⟩

theorem State.Stored.sameMonitors (hu : s.Stored u) : s.hart.sameMonitors u.hart := by
  rw [hu.hart]
  exact ⟨rfl, rfl⟩

theorem State.Stored.sameRegs (hu : s.Stored u) : s.hart.sameRegs u.hart := by
  rw [hu.hart]
  exact fun _ => rfl

/-- Stores leave the count of instructions to the end of the instruction. -/
theorem State.Stored.countsOne (hu : s.Stored u) {w : State} (hcount : w.hart.minstret = u.hart.minstret)
    (hinhibit : w.hart.mcountinhibit = u.hart.mcountinhibit) : s.hart.countsOne w.retire.hart := by
  rw [Hart.countsOne, State.retire_hart_minstret, Hart.instretStopped, hcount, hinhibit, hu.hart]

theorem finish_storesWith {w : State} {regs : Vector Word 31} {f : RegIdx → Word} (hu : s.Stored u)
    (hinto : s.storesInto u device new) (hw : w = u.withRegs regs) (hf : ∀ q, w.reg q = f q) (len : Word) :
    StoresWith (finish len w) s device new f (s.hart.pc + len) := by
  subst hw
  obtain ⟨hmem, hother, hsystem, hpc, hstale, -⟩ := u.finishes_eqs regs (s.hart.pc + len)
  refine ⟨((u.withRegs regs).setPc (s.hart.pc + len)).retire, ?_, hinto.congr hmem hstale hother,
    fun q => (State.retire_reg ..).trans (hf q), hpc, hu.countsOne rfl rfl, hu.sameControl.trans (State.sameControl_finishes ..),
    ?_, hu.system.trans hsystem⟩
  · rw [← hu.pc]
    rfl
  · rw [Hart.sameMonitors, State.retire_hart_localMonitor, State.retire_hart_reservation]
    exact hu.sameMonitors

theorem finish_storesExclusively {w : State} {regs : Vector Word 31} {f : RegIdx → Word} (hu : s.Stored u)
    (hinto : s.storesInto u device new) (hw : w = u.endExclusive.withRegs regs) (hf : ∀ q, w.reg q = f q) (len : Word) :
    StoresExclusively (finish len w) s device new f (s.hart.pc + len) := by
  subst hw
  obtain ⟨hmem, hother, hsystem, hpc, hstale, hmonitor⟩ := u.endExclusive.finishes_eqs regs (s.hart.pc + len)
  refine ⟨((u.endExclusive.withRegs regs).setPc (s.hart.pc + len)).retire, ?_, hinto.congr hmem hstale hother,
    fun q => (State.retire_reg ..).trans (hf q), hpc, hu.countsOne rfl rfl,
    (hu.sameControl.trans u.sameControl_endExclusive).trans (State.sameControl_finishes ..), hmonitor,
    State.retire_hart_reservation _, hu.system.trans hsystem⟩
  rw [← hu.pc]
  rfl

end

/-! ### Stores -/

section
variable {i : Instr} {s : State} {a v : Word}

/-- An instruction of its own length that ends after a store, and writes no register. -/
theorem stores_of_exec {u : State} {n : Nat} {verdict : Verdict} (hv : verdict = .allowed)
    (hx : exec i s = guarded verdict s (finish (BitVec.ofNat 32 i.length) u)) (hu : s.Stored u)
    (hinto : s.storesInto u (s.plat.isDevice a) (storedByte a v n)) : Stores i s a v n := by
  rw [Stores, hx, guarded_of_allowed hv]
  exact finish_storesWith (regs := u.hart.regs) hu hinto rfl hu.sameRegs _

section
variable {len : Word} (hlen : len = BitVec.ofNat 32 i.length)
include hlen

theorem stores_of_storeByteOf (h : s.canStore 1 a) (hx : exec i s = storeByteOf len a v s) : Stores i s a v 1 :=
  stores_of_exec (State.storeVerdict_of_canStore h) (hlen ▸ hx) (State.store8_stored v h.2.1) (s.store8_storesInto a v)

theorem stores_of_storeHalf (h : s.canStore 2 a) (hx : exec i s = storeHalf len a v s) : Stores i s a v 2 :=
  stores_of_exec (State.storeVerdict_of_canStore h) (hlen ▸ hx) (State.store16_stored v h.2.1 h.1) (s.store16_storesInto v h.1)

theorem stores_of_storeWord (h : s.canStore 4 a) (hx : exec i s = storeWord len a v s) : Stores i s a v 4 :=
  stores_of_exec (State.storeVerdict_of_canStore h) (hlen ▸ hx) (State.store32_stored v h.2.1 h.1) (s.store32_storesInto v h.1)

end

end

/-- Settles O19. -/
theorem stores32 : Obligations.Stores32 := fun _ _ _ _ =>
  ⟨fun h => stores_of_storeByteOf rfl h rfl, fun h => stores_of_storeHalf rfl h rfl, fun h => stores_of_storeWord rfl h rfl⟩

/-- Settles O21. -/
theorem compressedStores : Obligations.CompressedStores := by
  intro s rs1 rs2 r word stack near a w p
  have ha : a = s.reg (cReg rs1) + zeroExtend near := by rw [cReg_eq_add]; rfl
  have hw : w = s.reg (cReg rs1) + zeroExtend word := by rw [cReg_eq_add]; rfl
  rw [← cReg_eq_add, ha, hw]
  exact ⟨fun h => stores_of_storeByteOf rfl h rfl, fun h => stores_of_storeHalf rfl h rfl, fun h => stores_of_storeWord rfl h rfl,
    fun h => stores_of_storeWord rfl h rfl⟩

/-- Settles O25: each byte of the stored word is read back; a halfword and the word are bytes put together. -/
theorem mixedWidthsAgree : Obligations.MixedWidthsAgree := by
  intro s a v ha hdevice
  obtain ⟨hmem, -⟩ := s.store32_storesInto v ha
  have hbyte (k : Nat) (hk : k < 4) : (s.store32 a v).mem.byteAt (a.toNat + k) = (v >>> (8 * k)).setWidth 8 := by
    rw [hmem, hdevice, storedByte_eq_some rfl hk]
    rfl
  have hread (k : Nat) (hk : k < 4) : (s.store32 a v).mem.read8 (a + BitVec.ofNat 32 k) = v.extractLsb' (8 * k) 8 := by
    have haddress : (a + BitVec.ofNat 32 k).toNat = a.toNat + k := by
      rw [BitVec.toNat_add, BitVec.toNat_ofNat]
      omega
    rw [Memory.read8, haddress, hbyte k hk, setWidth_ushiftRight_eq_extractLsb']
  have h0 : (s.store32 a v).mem.read8 a = v.extractLsb' 0 8 := by simpa using hread 0 (by decide)
  have h1 : (s.store32 a v).mem.read8 (a + 1) = v.extractLsb' 8 8 := hread 1 (by decide)
  have h2 : (s.store32 a v).mem.read8 (a + 2) = v.extractLsb' 16 8 := hread 2 (by decide)
  have h3 : (s.store32 a v).mem.read8 (a + 3) = v.extractLsb' 24 8 := hread 3 (by decide)
  have h3' : (s.store32 a v).mem.read8 (a + 2 + 1) = v.extractLsb' 24 8 := by rw [BitVec.add_assoc]; exact h3
  have hword : (s.store32 a v).mem.read32 a = v := by
    rw [Memory.read32, h0, h1, h2, h3]
    simp (disch := rfl) only [BitVec.extractLsb'_append_extractLsb'_eq_extractLsb', BitVec.extractLsb'_eq_self]
  refine ⟨hbyte, ?_, ?_, hword, ?_⟩
  · rw [Memory.read16, h0, h1]
    simp (disch := rfl) only [BitVec.extractLsb'_append_extractLsb'_eq_extractLsb']
  · rw [Memory.read16, h2, h3']
    simp (disch := rfl) only [BitVec.extractLsb'_append_extractLsb'_eq_extractLsb']
  · rw [State.load32_memory (by rw [State.store32_plat, hdevice]), hword]

/-! ### Exclusive accesses -/

section
variable {s : State} {a : Word}

/-- An AMO whose checks pass. -/
theorem atomicUpdate_storesExclusively (h : s.canUpdate a) (f : Word → Word → Word) (rd : RegIdx) (v : Word) :
    StoresExclusively (atomicUpdate f rd a v s) s (s.plat.isDevice a) (storedByte a (f (s.wordRead a) v) 4)
      (s.regsWith rd (s.wordRead a)) (s.hart.pc + 4) := by
  have ha : a.toNat % 4 = 0 := h.1
  rw [atomicUpdate, guarded_of_allowed (State.amoVerdict_of_canUpdate h), State.load32_eq_wordRead s ha]
  refine finish_storesExclusively (State.store32_stored _ h.dataAllowed ha) (s.store32_storesInto _ ha)
    (State.setReg_eq_withRegs ..) (fun q => ?_) 4
  rw [State.reg_setReg, State.endExclusive_reg, State.store32_reg]
  rfl

end

/-- Settles O28. -/
theorem atomicUpdates : Obligations.AtomicUpdates := by
  intro s rd rs1 rs2 aq rl h old v updates
  have hamo (f : Word → Word → Word) := atomicUpdate_storesExclusively h f rd v
  refine ⟨hamo (· + ·), hamo (· &&& ·), hamo (· ||| ·), hamo (· ^^^ ·), hamo fun _ v => v, ?_, ?_, ?_, ?_⟩
  · exact maxSigned_eq old v ▸ hamo maxSigned
  · exact maxUnsigned_eq old v ▸ hamo maxUnsigned
  · exact minSigned_eq old v ▸ hamo minSigned
  · exact minUnsigned_eq old v ▸ hamo minUnsigned

/-- What lr.w records, in one expression: the answer of the global monitor. -/
theorem State.reserve_eq (s : State) (a : Word) :
    s.reserve a = (s.setReservation (if s.plat.supportsExclusive a = true then some a else none)).setLocalMonitor
      (s.plat.supportsExclusive a) := by
  unfold State.reserve
  split
  · next h => rw [h]
  · next h => rw [Bool.not_eq_true] at h; rw [h]

theorem writeReg_eq_next (len : Word) (rd : RegIdx) (v : Word) (s : State) :
    writeReg len rd v s = .next ((s.setReg rd v).setPc (s.hart.pc + len)).retire := by
  rw [writeReg, finish, State.setReg_hart_pc]

/-- Settles O29. -/
theorem loadReserved_records : Obligations.LoadReserved := by
  intro s rd rs1 aq rl a ha hpermits hbus
  have hv : s.exclusiveVerdict .read .loadMisaligned .loadFault a = .allowed :=
    (State.verdict_allowed_iff ..).mpr ⟨ha, hpermits, hbus⟩
  have hx : exec (.lrW rd rs1 aq rl) s =
      .next (((s.reserve a).setReg rd (s.wordRead a)).setPc ((s.reserve a).hart.pc + 4)).retire := by
    rw [← writeReg_eq_next, ← State.load32_eq_wordRead s ha]
    exact guarded_of_allowed hv s _
  have hcontrol : s.hart.sameControl (((s.reserve a).setReg rd (s.wordRead a)).setPc ((s.reserve a).hart.pc + 4)).retire.hart := by
    rw [State.setReg_eq_withRegs]
    exact (s.sameControl_reserve a).trans (State.sameControl_finishes ..)
  rw [State.reserve_eq] at hx hcontrol
  refine ⟨_, hx, fun q => ?_, by simp, by simp, by simp, State.retire_hart_minstret _ |>.trans ?_, hcontrol, by simp, by simp,
    by simp, by simp [State.sameSystem]⟩
  · rw [State.retire_reg, State.setPc_reg, State.reg_setReg]
    rfl
  · simp [Hart.instretStopped]

/-- No byte written. -/
theorem State.storesInto_none (s : State) : s.storesInto s false fun _ => none := by
  refine ⟨fun _ => rfl, fun _ => rfl, fun _ => rfl, fun _ => rfl, rfl, rfl, Hart.sameControl_refl _, rfl, .inl rfl, ?_, ?_⟩
  · intro x hx
    cases hx
  · exact fun q hq _ => hq

/-- Settles O30. -/
theorem storeConditional_grants : Obligations.StoreConditional := by
  intro s rd rs1 rs2 aq rl a ha hpermits hbus
  have hv : s.exclusiveVerdict .write .storeMisaligned .storeFault a = .allowed :=
    (State.verdict_allowed_iff ..).mpr ⟨ha, hpermits, hbus⟩
  have hx : exec (.scW rd rs1 rs2 aq rl) s = storeConditionalBody rd a (s.reg rs2) s := guarded_of_allowed hv s _
  refine ⟨fun hclear => ?clear, fun hset => ⟨fun r hr hgranule hexclusive hgranted => ?granted, fun hdenied => ?denied⟩⟩
  case clear =>
    refine computes_of_exec s (hx.trans ?_) rfl
    rw [storeConditionalBody, hclear]
    rfl
  case granted =>
    have hgrants : s.exclusiveGranted a = true := by
      simp [State.exclusiveGranted, Hart.reservedAt, hr, hgranule, hexclusive, hgranted]
    rw [hx, storeConditionalBody, hset, hgrants]
    refine finish_storesExclusively (State.store32_stored _ hpermits ha) (s.store32_storesInto _ ha)
      (State.setReg_eq_withRegs ..) (fun q => ?_) 4
    rw [State.reg_setReg, State.endExclusive_reg, State.store32_reg]
    rfl
  case denied =>
    have hgrants : s.exclusiveGranted a = false := by
      rcases hdenied with h | h | h <;> simp [State.exclusiveGranted, h]
    rw [hx, storeConditionalBody, hset, hgrants]
    refine finish_storesExclusively (.refl s) s.storesInto_none (State.setReg_eq_withRegs ..) (fun q => ?_) 4
    rw [State.reg_setReg, State.endExclusive_reg]
    rfl

/-- An AMO leaves the local monitor clear, whether it completes or raises. -/
theorem atomicUpdate_localMonitor {f : Word → Word → Word} {rd : RegIdx} {a v : Word} {s t : State}
    (h : atomicUpdate f rd a v s = .next t) : t.hart.localMonitor = false := by
  rcases atomicUpdate_next h with ⟨-, rfl⟩ | ⟨c, -, rfl⟩
  · simp
  · rfl

/-- Settles O31: the AMO leaves the local monitor clear, and an sc.w without it gives 1. -/
theorem amoBreaksReservation : Obligations.AmoBreaksReservation := by
  intro s t i rd rs1 rs2 aq rl sd s1 s2 hi h ha hpermits hbus
  have hclear : t.hart.localMonitor = false := by
    simp only [List.mem_cons, List.not_mem_nil, or_false] at hi
    rcases hi with rfl | rfl | rfl | rfl | rfl | rfl | rfl | rfl | rfl
    · exact atomicUpdate_localMonitor h
    · exact atomicUpdate_localMonitor h
    · exact atomicUpdate_localMonitor h
    · exact atomicUpdate_localMonitor h
    · exact atomicUpdate_localMonitor (f := fun _ v => v) h
    all_goals exact atomicUpdate_localMonitor h
  exact (storeConditional_grants t sd s1 s2 aq rl ha hpermits hbus).1 hclear

/-! ### Accesses that are turned down -/

section
variable {s : State} {a : Word}

theorem load_raises_of_denied {n : Nat} (ha : a.toNat % n = 0)
    (hdenied : s.dataAllowed .read a = false ∨ s.plat.busFault .load a = true) (body : Result) :
    Raises (guarded (s.loadVerdict n a) s body) s 5 := guarded_raises (State.verdict_of_denied ha hdenied ..) s body

theorem store_raises_of_denied {n : Nat} (ha : a.toNat % n = 0)
    (hdenied : s.dataAllowed .write a = false ∨ s.plat.busFault .store a = true) (body : Result) :
    Raises (guarded (s.storeVerdict n a) s body) s 7 := guarded_raises (State.verdict_of_denied ha hdenied ..) s body

end

/-- Settles O23: each access is guarded by its checks. -/
theorem accessFaultsTrap : Obligations.AccessFaultsTrap := by
  intro s rd rs1 rs2 imm cd c1 c2 word stack near aq rl a cw cn p x level denied loadFault storeFault
  have hcw : cw = s.reg (cReg c1) + zeroExtend word := by rw [cReg_eq_add]; rfl
  have hcn : cn = s.reg (cReg c1) + zeroExtend near := by rw [cReg_eq_add]; rfl
  rw [hcw, hcn]
  have hone (b : Word) : b.toNat % 1 = 0 := Nat.mod_one _
  refine ⟨fun h => ?load, fun h => ?store, fun h => ?cload, fun h => ?cstore, fun h ha => load_raises_of_denied ha h _,
    fun h ha => store_raises_of_denied ha h _, fun h ha => load_raises_of_denied ha h _,
    fun h ha => store_raises_of_denied ha h _, fun ha => ⟨fun h => ?lr, fun h => ?sc, fun h => ?amo⟩⟩
  case load =>
    exact ⟨load_raises_of_denied (hone a) h _, load_raises_of_denied (hone a) h _,
      fun ha => ⟨load_raises_of_denied ha h _, load_raises_of_denied ha h _⟩, fun ha => load_raises_of_denied ha h _⟩
  case store =>
    exact ⟨store_raises_of_denied (hone a) h _, fun ha => store_raises_of_denied ha h _, fun ha => store_raises_of_denied ha h _⟩
  case cload =>
    exact ⟨load_raises_of_denied (hone _) h _, fun ha => ⟨load_raises_of_denied ha h _, load_raises_of_denied ha h _⟩⟩
  case cstore => exact ⟨store_raises_of_denied (hone _) h _, fun ha => store_raises_of_denied ha h _⟩
  case lr => exact guarded_raises (State.verdict_of_denied ha h ..) s _
  case sc => exact guarded_raises (State.verdict_of_denied ha h ..) s _
  case amo =>
    have hamo (f : Word → Word → Word) : Raises (atomicUpdate f rd x (s.reg rs2) s) s 7 :=
      guarded_raises (State.amoVerdict_of_denied ha h) s _
    exact ⟨hamo (· + ·), hamo (· &&& ·), hamo (· ||| ·), hamo (· ^^^ ·), hamo fun _ v => v, hamo maxSigned, hamo maxUnsigned,
      hamo minSigned, hamo minUnsigned⟩

end Sys2Proof.Machine
end

section
/-!
PROOF. The instructions on single bits and on their order (46, 47). Each value of the model is read bit by bit.
-/

namespace Sys2Proof.Machine

/-! ### Counts -/

/-- Counting from bit n-1 down: the bits passed are zeros, and where the count stops before n there is a 1. -/
theorem leadingZeros_counts (v : Word) (n : Nat) :
    leadingZeros n v ≤ n ∧ (∀ k, k < leadingZeros n v → v.getLsbD (n - 1 - k) = false) ∧
      (leadingZeros n v < n → v.getLsbD (n - 1 - leadingZeros n v) = true) := by
  induction n with
  | zero => simp [leadingZeros]
  | succ n ih =>
    obtain ⟨hle, hzeros, hone⟩ := ih
    unfold leadingZeros
    split
    · next h => exact ⟨Nat.zero_le _, fun k hk => absurd hk (Nat.not_lt_zero k), fun _ => h⟩
    · next h =>
      refine ⟨by omega, fun k hk => ?_, fun hlt => ?_⟩
      · cases k with
        | zero => simpa using h
        | succ k =>
          rw [show n + 1 - 1 - (k + 1) = n - 1 - k by omega]
          exact hzeros k (by omega)
      · rw [show n + 1 - 1 - (leadingZeros n v + 1) = n - 1 - leadingZeros n v by omega]
        exact hone (by omega)

/-- Counting n bits from bit i up. -/
theorem trailingZeros_counts (v : Word) (n i : Nat) :
    trailingZeros n i v ≤ n ∧ (∀ k, k < trailingZeros n i v → v.getLsbD (i + k) = false) ∧
      (trailingZeros n i v < n → v.getLsbD (i + trailingZeros n i v) = true) := by
  induction n generalizing i with
  | zero => simp [trailingZeros]
  | succ n ih =>
    obtain ⟨hle, hzeros, hone⟩ := ih (i + 1)
    unfold trailingZeros
    split
    · next h => exact ⟨Nat.zero_le _, fun k hk => absurd hk (Nat.not_lt_zero k), fun _ => h⟩
    · next h =>
      refine ⟨by omega, fun k hk => ?_, fun hlt => ?_⟩
      · cases k with
        | zero => simpa using h
        | succ k =>
          rw [show i + (k + 1) = i + 1 + k by omega]
          exact hzeros k (by omega)
      · rw [show i + (trailingZeros n (i + 1) v + 1) = i + 1 + trailingZeros n (i + 1) v by omega]
        exact hone (by omega)

theorem onesBelow_eq_countP (v : Word) (n : Nat) : onesBelow n v = (List.range n).countP fun k => v.getLsbD k := by
  induction n with
  | zero => rfl
  | succ n ih => rw [onesBelow, ih, List.range_succ, List.countP_append, List.countP_singleton]

/-- Settles O36. -/
theorem bitCounts : Obligations.BitCounts := by
  intro s rd rs1 a
  obtain ⟨hle, hzeros, hone⟩ := leadingZeros_counts a 32
  obtain ⟨hle', hzeros', hone'⟩ := trailingZeros_counts a 32 0
  simp only [Nat.zero_add] at hzeros' hone'
  exact ⟨⟨_, hle, hzeros, hone, computes_of_exec s rfl rfl⟩, ⟨_, hle', hzeros', hone', computes_of_exec s rfl rfl⟩,
    computes_of_exec s rfl (congrArg _ (onesBelow_eq_countP a 32))⟩

/-! ### Words given bit by bit -/

theorem getLsbD_oneHot (n : Nat) {k : Nat} (hk : k < 32) : (1#32 <<< n).getLsbD k = (k == n) := by
  rw [BitVec.getLsbD_shiftLeft, BitVec.getLsbD_one, decide_eq_true hk]
  by_cases h : k < n
  · simp [h, show k ≠ n by omega]
  · simp [h, show k - n = 0 ↔ k = n by omega, beq_eq_decide]

theorem getLsbD_bitsBelow (f : Nat → Bool) (n : Nat) {k : Nat} (hk : k < 32) :
    (bitsBelow f n).getLsbD k = (decide (k < n) && f k) := by
  induction n with
  | zero => simp [bitsBelow]
  | succ n ih =>
    have hnext : (if f n then 1#32 <<< n else 0).getLsbD k = (k == n && f n) := by
      split
      · next h => rw [getLsbD_oneHot n hk, h, Bool.and_true]
      · next h => simp [h]
    rw [bitsBelow, BitVec.getLsbD_or, ih, hnext]
    by_cases h : k = n
    · simp [h]
    · simp [h, show k < n + 1 ↔ k < n by omega]

theorem getLsbD_wordOfBits (f : Nat → Bool) {k : Nat} (hk : k < 32) : (wordOfBits f).getLsbD k = f k := by
  rw [wordOfBits, getLsbD_bitsBelow f 32 hk, decide_eq_true hk, Bool.true_and]

/-! ### Permutations -/

section
variable (a b : Word) {k : Nat} (hk : k < 32)
include hk

theorem getLsbD_rotateRight {n : Nat} (hn : n < 32) : (rotateRight a n).getLsbD k = a.getLsbD ((k + n) % 32) := by
  simp only [rotateRight, BitVec.getLsbD_extractLsb', hk, decide_true, Bool.true_and, BitVec.getLsbD_ushiftRight,
    BitVec.getLsbD_append]
  split
  · congr 1; omega
  · congr 1; omega

theorem getLsbD_rotateLeft {n : Nat} (hn : n < 32) : (rotateLeft a n).getLsbD k = a.getLsbD ((k + 32 - n) % 32) := by
  have h64 : 32 + k < 32 + 32 := by omega
  have hge : ¬ 32 + k < n := by omega
  simp only [rotateLeft, BitVec.getLsbD_extractLsb', hk, decide_true, Bool.true_and, BitVec.getLsbD_shiftLeft, h64, hge,
    decide_false, Bool.not_false, BitVec.getLsbD_append]
  split
  · congr 1; omega
  · congr 1; omega

theorem getLsbD_reverseBytes : (reverseBytes a).getLsbD k = a.getLsbD (8 * (3 - k / 8) + k % 8) := by
  simp only [reverseBytes, byteOf, BitVec.getLsbD_append, BitVec.getLsbD_extractLsb']
  split_ifs with h0 h1 h2
  · rw [decide_eq_true h0, Bool.true_and]; congr 1; omega
  · rw [decide_eq_true h1, Bool.true_and]; congr 1; omega
  · rw [decide_eq_true h2, Bool.true_and]; congr 1; omega
  · rw [decide_eq_true (by omega), Bool.true_and]; congr 1; omega

theorem getLsbD_packHalves :
    (packHalves a b).getLsbD k = if k < 16 then a.getLsbD k else b.getLsbD (k - 16) := by
  simp only [packHalves, BitVec.getLsbD_append, BitVec.getLsbD_extractLsb', Nat.zero_add]
  split_ifs with h
  · rw [decide_eq_true h, Bool.true_and]
  · rw [decide_eq_true (by omega), Bool.true_and]

theorem getLsbD_packBytes :
    (packBytes a b).getLsbD k = if k < 8 then a.getLsbD k else if k < 16 then b.getLsbD (k - 8) else false := by
  simp only [packBytes, BitVec.getLsbD_append, BitVec.getLsbD_extractLsb', Nat.zero_add]
  split_ifs with h0 h1 h2
  · rw [decide_eq_true h0, Bool.true_and]
  · rw [decide_eq_true h1, Bool.true_and]
  · omega
  · omega
  · exact BitVec.getLsbD_zero

end

theorem getLsbD_orByte (b : Byte) {k : Nat} (hk : k < 8) : (orByte b).getLsbD k = (b != 0#8) := by
  unfold orByte
  split
  · next h => simp [h]
  · next h =>
    have hones : (0xff : Byte) = BitVec.allOnes 8 := rfl
    rw [hones, BitVec.getLsbD_allOnes, decide_eq_true hk]
    simpa using h

theorem getLsbD_orCombine (a : Word) {k : Nat} (hk : k < 32) :
    (orCombine a).getLsbD k = (a.extractLsb' (8 * (k / 8)) 8 != 0#8) := by
  simp only [orCombine, byteOf, BitVec.getLsbD_append]
  split_ifs with h0 h1 h2
  · rw [getLsbD_orByte _ h0, show k / 8 = 0 by omega]
  · rw [getLsbD_orByte _ h1, show k / 8 = 1 by omega]
  · rw [getLsbD_orByte _ h2, show k / 8 = 2 by omega]
  · rw [getLsbD_orByte _ (by omega), show k / 8 = 3 by omega]

/-- Settles O37. -/
theorem bitPermutations : Obligations.BitPermutations := by
  intro s rd rs1 rs2 shamt a b n gives
  have hn : n < 32 := Nat.mod_lt _ (by decide)
  have hshift : shiftAmount b = n := shiftAmount_eq b
  refine ⟨⟨rotateLeft a n, computes_of_exec s rfl ?rol, fun k hk => getLsbD_rotateLeft a hk hn⟩,
    ⟨rotateRight a n, computes_of_exec s rfl ?ror, fun k hk => getLsbD_rotateRight a hk hn⟩,
    ⟨_, computes_of_exec s rfl rfl, fun k hk => getLsbD_rotateRight a hk shamt.isLt⟩,
    ⟨_, computes_of_exec s rfl rfl, fun k hk => getLsbD_reverseBytes a hk⟩,
    ⟨_, computes_of_exec s rfl rfl, fun k hk => getLsbD_orCombine a hk⟩,
    ⟨_, computes_of_exec s rfl rfl, fun k hk => getLsbD_wordOfBits _ hk⟩,
    ⟨_, computes_of_exec s rfl rfl, fun k hk => (getLsbD_wordOfBits _ hk).trans ?zip⟩,
    ⟨_, computes_of_exec s rfl rfl, fun k hk => (getLsbD_wordOfBits _ hk).trans ?unzip⟩,
    ⟨_, computes_of_exec s rfl rfl, fun k hk => getLsbD_packHalves a b hk⟩,
    ⟨_, computes_of_exec s rfl rfl, fun k hk => getLsbD_packBytes a b hk⟩⟩
  case rol => exact congrArg (rotateLeft a) hshift
  case ror => exact congrArg (rotateRight a) hshift
  case zip =>
    dsimp only
    split
    · congr 1; omega
    · congr 1; omega
  case unzip =>
    dsimp only
    split
    · congr 1; omega
    · congr 1; omega

/-! ### Single bits -/

section
variable (a : Word) (n : Nat) {k : Nat} (hk : k < 32)
include hk

theorem getLsbD_clearBit : (clearBit a n).getLsbD k = (a.getLsbD k && k != n) := by
  rw [clearBit, oneHot, BitVec.getLsbD_and, BitVec.getLsbD_not, getLsbD_oneHot n hk, decide_eq_true hk, Bool.true_and]
  rfl

theorem getLsbD_setBit : (setBit a n).getLsbD k = (a.getLsbD k || k == n) := by
  rw [setBit, oneHot, BitVec.getLsbD_or, getLsbD_oneHot n hk]

theorem getLsbD_invertBit : (invertBit a n).getLsbD k = (a.getLsbD k != (k == n)) := by
  rw [invertBit, oneHot, BitVec.getLsbD_xor, getLsbD_oneHot n hk, Bool.bne_eq_xor]

theorem getLsbD_extractBit : (extractBit a n).getLsbD k = (k == 0 && a.getLsbD n) := by
  have hone : (1 : Word).getLsbD k = (k == 0) := getLsbD_oneHot 0 hk
  rw [extractBit, BitVec.getLsbD_and, BitVec.getLsbD_ushiftRight, hone, Bool.and_comm]
  cases k with
  | zero => rfl
  | succ k => rfl

end

/-- Settles O38. -/
theorem singleBits : Obligations.SingleBits := by
  intro s rd rs1 rs2 shamt a n m gives
  have hshift : shiftAmount (s.reg rs2) = n := shiftAmount_eq (s.reg rs2)
  exact ⟨⟨_, computes_of_exec s rfl (congrArg (clearBit a) hshift), fun k hk => getLsbD_clearBit a n hk⟩,
    ⟨_, computes_of_exec s rfl rfl, fun k hk => getLsbD_clearBit a m hk⟩,
    ⟨_, computes_of_exec s rfl (congrArg (setBit a) hshift), fun k hk => getLsbD_setBit a n hk⟩,
    ⟨_, computes_of_exec s rfl rfl, fun k hk => getLsbD_setBit a m hk⟩,
    ⟨_, computes_of_exec s rfl (congrArg (invertBit a) hshift), fun k hk => getLsbD_invertBit a n hk⟩,
    ⟨_, computes_of_exec s rfl rfl, fun k hk => getLsbD_invertBit a m hk⟩,
    ⟨_, computes_of_exec s rfl (congrArg (extractBit a) hshift), fun k hk => getLsbD_extractBit a n hk⟩,
    ⟨_, computes_of_exec s rfl rfl, fun k hk => getLsbD_extractBit a m hk⟩⟩

end Sys2Proof.Machine
end

section
/-!
PROOF. The CSR instructions (10 R44 to R66, 49 R405 to R411): which address names which register, which accesses pass, and what an access
leaves.
-/

namespace Sys2Proof.Machine

/-! ### Addresses and checks -/

/-- The model finds a register at each of its addresses (10 R46 to R65). -/
theorem csrAt_ofNat_of_mem_addresses (c : Csr) : ∀ x ∈ c.addresses, csrAt (BitVec.ofNat 12 x) = some c := by
  cases c with
  | pmpcfg k => revert k; decide
  | pmpaddr n => revert n; decide
  | _ => decide

theorem csrAt_of_mem_addresses {a : CsrAddr} {c : Csr} (h : a.toNat ∈ c.addresses) : csrAt a = some c := by
  simpa using csrAt_ofNat_of_mem_addresses c a.toNat h

theorem csrOf_of_mem_addresses {p : Platform} {a : CsrAddr} {c : Csr} (h : a.toNat ∈ c.addresses)
    (hpresent : p.csrAbsent.contains a = false) : csrOf p a = some c := by
  rw [csrOf, hpresent, if_neg (by decide), csrAt_of_mem_addresses h]

theorem csrVerdict_eq_access {a : CsrAddr} {writes : Bool} {s : State} {c : Csr} (hc : csrOf s.plat a = some c)
    (hpriv : s.hart.priv = .user → csrNeedsMachine a = false ∧ counterEnabled s.hart c = true)
    (hwrite : writes = true → csrReadOnly a = false) : csrVerdict a writes s = .access c := by
  have h1 : ¬ (s.hart.priv = .user && (csrNeedsMachine a || !counterEnabled s.hart c)) = true := by
    intro h
    simp only [Bool.and_eq_true, decide_eq_true_eq, Bool.or_eq_true, Bool.not_eq_true'] at h
    obtain ⟨huser, h⟩ := h
    obtain ⟨hneeds, henabled⟩ := hpriv huser
    rw [hneeds, henabled] at h
    simp at h
  have h2 : ¬ (writes && csrReadOnly a) = true := by
    intro h
    rw [Bool.and_eq_true] at h
    rw [hwrite h.1] at h
    simp at h
  unfold csrVerdict
  rw [hc]
  simp only
  rw [if_neg h1, if_neg h2]

theorem csrVerdict_illegal_of_readOnly {a : CsrAddr} (h : csrReadOnly a = true) (s : State) :
    csrVerdict a true s = .illegal := by
  cases hv : csrVerdict a true s with
  | illegal => rfl
  | access c =>
    obtain ⟨-, -, hwrite⟩ := csrVerdict_access hv
    rw [hwrite rfl] at h
    cases h

theorem csrVerdict_illegal_of_user {a : CsrAddr} {s : State} (huser : s.hart.priv = .user)
    (h : csrNeedsMachine a = true ∨ ∀ c, csrAt a = some c → counterEnabled s.hart c = false) (writes : Bool) :
    csrVerdict a writes s = .illegal := by
  cases hv : csrVerdict a writes s with
  | illegal => rfl
  | access c =>
    obtain ⟨hc, hpriv, -⟩ := csrVerdict_access hv
    obtain ⟨hneeds, henabled⟩ := hpriv huser
    rcases h with h | h
    · rw [hneeds] at h
      cases h
    · rw [h c (csrAt_of_csrOf hc)] at henabled
      cases henabled

/-- A CSR instruction whose checks pass, at a register other than a custom one. -/
theorem csrInstr_of_access {a : CsrAddr} {w : Option (Word → Word)} {s : State} {c : Csr} (h : csrVerdict a w.isSome s = .access c)
    (hc : c ≠ .custom) (rd : RegIdx) : csrInstr a rd w s = .next (csrCommit c (w.map fun f => f (csrRead c s)) rd s) := by
  unfold csrInstr
  rw [h]
  cases c with
  | custom => exact absurd rfl hc
  | _ => rfl

theorem csrInstr_of_custom {a : CsrAddr} {w : Option (Word → Word)} {s : State} (h : csrVerdict a w.isSome s = .access .custom)
    (rd : RegIdx) : csrInstr a rd w s = .refused .customCsr := by
  unfold csrInstr
  rw [h]

theorem csrReadOnly_eq_false {a : CsrAddr} : csrReadOnly a = false ↔ a.extractLsb' 10 2 ≠ 3#2 := by
  simp [csrReadOnly]

theorem csrNeedsMachine_eq_true {a : CsrAddr} : csrNeedsMachine a = true ↔ a.extractLsb' 8 2 ≠ 0#2 := by
  simp [csrNeedsMachine]

/-- The counters that mcounteren guards, as the statement has them (10 R57, R60). -/
theorem counterEnabled_of_user {h : Hart} {c : Csr} (hcycle : c = .cycle ∨ c = .cycleh → h.mcounteren.getLsbD 0 = true)
    (htime : c = .time ∨ c = .timeh → h.mcounteren.getLsbD 1 = true)
    (hinstret : c = .instret ∨ c = .instreth → h.mcounteren.getLsbD 2 = true) : counterEnabled h c = true := by
  cases c with
  | cycle => exact hcycle (.inl rfl)
  | cycleh => exact hcycle (.inr rfl)
  | time => exact htime (.inl rfl)
  | timeh => exact htime (.inr rfl)
  | instret => exact hinstret (.inl rfl)
  | instreth => exact hinstret (.inr rfl)
  | _ => rfl

theorem State.mayAccess.verdict {s : State} {a : CsrAddr} {c : Csr} (h : s.mayAccess a c) {writes : Bool}
    (hwrite : writes = true → csrReadOnly a = false) : csrVerdict a writes s = .access c := by
  obtain ⟨haddress, hpresent, -, huser⟩ := h
  refine csrVerdict_eq_access (csrOf_of_mem_addresses haddress hpresent) (fun hu => ?_) hwrite
  obtain ⟨hbits, hcycle, htime, hinstret⟩ := huser hu
  refine ⟨?_, counterEnabled_of_user hcycle htime hinstret⟩
  rw [csrNeedsMachine, hbits]
  rfl

/-! ### What an access leaves -/

/-- A write of another register leaves the count of instructions. -/
theorem Hart.csrWrite_minstret {c : Csr} (hc : c.isInstret = false) (p : Platform) (v : Word) (h : Hart) :
    (h.csrWrite p c v).minstret = h.minstret := by
  cases c with
  | minstret | minstreth => cases hc
  | pmpcfg k => exact Hart.setPmpCfg_minstret p h k v
  | pmpaddr n => exact Hart.setPmpAddr_minstret p h n v
  | _ => rfl

theorem Csr.isInstret_iff {c : Csr} : c.isInstret = true ↔ c = .minstret ∨ c = .minstreth := by
  cases c with
  | minstret | minstreth => simp [Csr.isInstret]
  | _ => simp [Csr.isInstret]

theorem csrCommit_reg (c : Csr) (w : Option Word) (rd : RegIdx) (s : State) (q : RegIdx) :
    (csrCommit c w rd s).reg q = s.regsWith rd (csrRead c s) q := by
  unfold csrCommit
  split
  · rw [State.setPc_reg, State.reg_setReg, State.retire_reg]
    rfl
  · have hregs : (if c.isInstret then s else s.retire).reg q = s.reg q := by
      split
      · rfl
      · exact State.retire_reg ..
    rw [State.setPc_reg, State.reg_setReg, csrWrite_reg, hregs]
    rfl

/-- A CSR instruction that passes its checks accesses the register. -/
theorem csrCommit_accessesCsr (c : Csr) (w : Option Word) (rd : RegIdx) (s : State) :
    AccessesCsr (.next (csrCommit c w rd s)) s c rd w := by
  refine ⟨_, rfl, csrCommit_reg c w rd s, csrCommit_pc c w rd s, ?_, csrCommit_sameMonitors c w rd s, csrCommit_stale c w rd s,
    csrCommit_other c w rd s, csrCommit_mem c w rd s, csrCommit_sameSystem c w rd s⟩
  cases w with
  | none => exact ⟨csrCommit_none_sameControl c rd s, (State.setReg_hart_minstret ..).trans (State.retire_hart_minstret s)⟩
  | some v =>
    refine ⟨csrCommit_some_sameControl c v rd s, ?_⟩
    have hminstret : (csrCommit c (some v) rd s).hart.minstret =
        ((if c.isInstret then s else s.retire).hart.csrWrite (if c.isInstret then s else s.retire).plat c v).minstret :=
      State.setReg_hart_minstret ..
    by_cases hc : c.isInstret = true
    · rw [if_pos (Csr.isInstret_iff.mp hc), hminstret, if_pos hc]
    · have hother : ¬ (c = .minstret ∨ c = .minstreth) := mt Csr.isInstret_iff.mpr hc
      rw [Bool.not_eq_true] at hc
      rw [if_neg hother, Hart.countsOne, hminstret, hc, Hart.csrWrite_minstret hc]
      exact State.retire_hart_minstret s

section
variable {s : State} {a : CsrAddr} {c : Csr}

theorem csrInstr_accessesCsr (h : s.mayAccess a c) (rd : RegIdx) (w : Option (Word → Word))
    (hwrite : w.isSome = true → csrReadOnly a = false) :
    AccessesCsr (csrInstr a rd w s) s c rd (w.map fun f => f (csrRead c s)) := by
  rw [csrInstr_of_access (h.verdict hwrite) h.2.2.1]
  exact csrCommit_accessesCsr c _ rd s

end

/-- Settles O44: each form by whether it writes, and what. -/
theorem csrInstructions : Obligations.CsrInstructions := by
  intro s rd rs1 a uimm c h old
  have hreads := csrInstr_accessesCsr h rd none (fun hw => by cases hw)
  refine ⟨fun hwritable => ?_, hreads, hreads, hreads, hreads⟩
  have hwrites (f : Word → Word) : AccessesCsr (csrInstr a rd (some f) s) s c rd (some (f old)) :=
    csrInstr_accessesCsr h rd (some f) fun _ => csrReadOnly_eq_false.mpr hwritable
  refine ⟨hwrites _, hwrites _, fun hrs1 => ?_, fun huimm => ?_⟩
  · refine ⟨?_, ?_⟩
    · change AccessesCsr (csrInstr a rd (if rs1 = 0 then none else some fun x => x ||| s.reg rs1) s) s c rd _
      rw [if_neg hrs1]
      exact hwrites _
    · change AccessesCsr (csrInstr a rd (if rs1 = 0 then none else some fun x => x &&& ~~~ s.reg rs1) s) s c rd _
      rw [if_neg hrs1]
      exact hwrites _
  · refine ⟨?_, ?_⟩
    · change AccessesCsr (csrInstr a rd (if uimm = 0 then none else some fun x => x ||| zeroExtend uimm) s) s c rd _
      rw [if_neg huimm]
      exact hwrites _
    · change AccessesCsr (csrInstr a rd (if uimm = 0 then none else some fun x => x &&& ~~~ zeroExtend uimm) s) s c rd _
      rw [if_neg huimm]
      exact hwrites _

/-! ### Accesses that are denied -/

/-- The set and clear forms write unless their operand field is 0. -/
theorem isSome_ite_none {p : Prop} [Decidable p] {f : Word → Word} (h : ¬ p) : (if p then none else some f).isSome = true := by
  rw [if_neg h]
  rfl

/-- Settles O45: a read-only address fails for what writes; in U-mode the level or the counter fails. -/
theorem csrAccessDenied : Obligations.CsrAccessDenied := by
  intro s rd rs1 a uimm
  refine ⟨fun hreadOnly => ?readOnly, fun huser hdenied => ?user⟩
  case readOnly =>
    have hillegal := csrVerdict_illegal_of_readOnly (a := a) (by rw [csrReadOnly, hreadOnly]; rfl) s
    have hraises (w : Option (Word → Word)) (hw : w.isSome = true) : Raises (csrInstr a rd w s) s 2 :=
      csrInstr_raises_of_illegal (by rw [hw, hillegal]) rd
    exact ⟨hraises _ rfl, hraises _ rfl, fun h => ⟨hraises _ (isSome_ite_none h), hraises _ (isSome_ite_none h)⟩,
      fun h => ⟨hraises _ (isSome_ite_none h), hraises _ (isSome_ite_none h)⟩⟩
  case user =>
    have hfails : csrNeedsMachine a = true ∨ ∀ c, csrAt a = some c → counterEnabled s.hart c = false := by
      rcases hdenied with h | ⟨rfl | rfl, h⟩ | ⟨rfl | rfl, h⟩ | ⟨rfl | rfl, h⟩
      · exact .inl (csrNeedsMachine_eq_true.mpr h)
      all_goals
        refine .inr fun c hc => ?_
        cases hc
        exact h
    have hraises (w : Option (Word → Word)) : Raises (csrInstr a rd w s) s 2 :=
      csrInstr_raises_of_illegal (csrVerdict_illegal_of_user huser hfails _) rd
    exact ⟨hraises _, hraises _, hraises _, hraises _, hraises _, hraises _⟩

/-! ### The performance counters -/

/-- An access of a register that reads 0 and ignores writes. -/
theorem writesReg_of_accessesCsr {r : Result} {s : State} {c : Csr} {rd : RegIdx} {w : Option Word} (h : AccessesCsr r s c rd w)
    (hread : csrRead c s = 0) (hignores : ∀ v, s.hart.csrWrite s.plat c v = s.hart) (hcount : c.isInstret = false) :
    WritesReg r s rd 0 (s.hart.pc + 4) := by
  obtain ⟨t, ht, hregs, hpc, hcontrol, hmonitors, hstale, hother, hmem, hsystem⟩ := h
  have hkeeps : s.hart.sameControl t.hart ∧ s.hart.countsOne t.hart := by
    cases w with
    | none => exact hcontrol
    | some v =>
      have hc : ¬ (c = .minstret ∨ c = .minstreth) := fun e => by rw [Csr.isInstret_iff.mpr e] at hcount; cases hcount
      simp only [hignores, if_neg hc] at hcontrol
      exact hcontrol
  rw [hread] at hregs
  exact ⟨t, ht, hregs, hpc, hkeeps.2, hkeeps.1, hmonitors, hstale, hother, fun _ => by rw [hmem], hsystem⟩

/-- Settles O47. -/
theorem performanceCountersReadZero : Obligations.PerformanceCountersReadZero := by
  intro s rd rs1 a uimm hrange hpresent hmachine
  have haddress : a.toNat ∈ Csr.hpm.addresses := by
    simp only [Csr.addresses, List.mem_append, List.mem_range'_1]
    omega
  have hmay : s.mayAccess a .hpm := by
    refine ⟨haddress, hpresent, by decide, fun huser => ?_⟩
    rw [hmachine] at huser
    cases huser
  have hwritable : csrReadOnly a = false := by
    rw [← Bool.not_eq_true, csrReadOnly_iff]
    omega
  have hwrites (w : Option (Word → Word)) : WritesReg (csrInstr a rd w s) s rd 0 (s.hart.pc + 4) :=
    writesReg_of_accessesCsr (csrInstr_accessesCsr hmay rd w fun _ => hwritable) rfl (fun _ => rfl) rfl
  exact ⟨hwrites _, hwrites _, hwrites _, hwrites _, hwrites _, hwrites _⟩

/-! ### mstatus -/

theorem Priv.getLsbD_bits (p : Priv) {k : Nat} (hk : k < 2) : p.bits.getLsbD k = (p == .machine) := by
  cases p with
  | user => exact BitVec.getLsbD_zero
  | machine =>
    have hones : Priv.machine.bits = BitVec.allOnes 2 := rfl
    rw [hones, BitVec.getLsbD_allOnes, decide_eq_true hk]
    rfl

theorem getLsbD_mstatus_word (m : Mstatus) {k : Nat} (hk : k < 32) :
    m.word.getLsbD k =
      if k = 3 then m.mie else if k = 7 then m.mpie else if k = 11 ∨ k = 12 then m.mpp == .machine
      else if k = 17 then m.mprv else if k = 21 then m.tw else false := by
  have hmpp0 := m.mpp.getLsbD_bits (k := 0) (by decide)
  have hmpp1 := m.mpp.getLsbD_bits (k := 1) (by decide)
  simp only [Mstatus.word, BitVec.getLsbD_append]
  interval_cases k <;> simp_all

/-- Settles O48. -/
theorem mstatusFields : Obligations.MstatusFields := by
  intro s v m
  refine ⟨fun k hk => getLsbD_mstatus_word m hk, rfl, rfl, rfl, rfl, fun h => ?_, fun h => ?_, fun h => ?_, fun h => ?_⟩
  all_goals
    change legalMpp s.plat m.mpp (v.extractLsb' 11 2) = _
    rw [h]
    rfl

end Sys2Proof.Machine
end

section
/-!
PROOF. Traps and their return (49 R413 to R416, 60 R450), instruction fetch (20 R85, R86, R110, R113), and reset (10 R77).
-/

namespace Sys2Proof.Machine

/-! ### Traps -/

theorem Hart.vectored_iff {h : Hart} : h.vectored = true ↔ h.mtvec.extractLsb' 0 2 = 1#2 := by
  simp [Hart.vectored]

/-- Trap entry changes nothing but the hart's trap fields (60 R450). -/
theorem enterTrap_trapsTo (t : Trap) (s : State) : TrapsTo (.next (enterTrap t s)) s t.mcause (s.hart.trapTarget t) := by
  refine ⟨enterTrap t s, rfl, ?_, rfl, rfl, rfl, rfl, rfl, rfl, rfl⟩
  simp [Hart.trapped, Hart.sameRegs]

/-- Settles O50. -/
theorem trapEntry : Obligations.TrapEntry := by
  intro s
  refine ⟨fun c => by cases c <;> exact raise_raises _ s, fun irq => ?_⟩
  have htarget : s.hart.trapTarget (.interrupt irq) =
      if s.hart.mtvec.extractLsb' 0 2 = 1#2 then s.hart.trapBase + 4 * irq.code else s.hart.trapBase := by
    simp only [Hart.trapTarget, Hart.vectored_iff]
  have hentry := enterTrap_trapsTo (.interrupt irq) s
  rw [htarget] at hentry
  cases irq <;> exact hentry

theorem State.debugCatches_iff {s : State} :
    s.debugCatches = true ↔ s.plat.debugAttached = true ∧
      (s.hart.priv = .machine ∧ s.hart.dcsrEbreakM = true ∨ s.hart.priv = .user ∧ s.hart.dcsrEbreakU = true) := by
  unfold State.debugCatches
  cases s.hart.priv <;> simp

theorem breakpoint_raises {s : State} (h : s.debugCatches = false) : Raises (breakpoint s) s 3 := by
  rw [breakpoint, h]
  exact raise_raises .breakpoint s

/-- Settles O51. -/
theorem systemInstructionsTrap : Obligations.SystemInstructionsTrap := by
  intro s
  refine ⟨fun hm => ?ecallM, fun hu => ?ecallU, fun hdetached => ?detached, fun hoff => ?off, fun hattached hon => ?caught,
    fun hu htw => ?wfi⟩
  case ecallM =>
    change Raises (execEcall s) s 11
    rw [execEcall, hm]
    exact raise_raises .ecallMachine s
  case ecallU =>
    change Raises (execEcall s) s 8
    rw [execEcall, hu]
    exact raise_raises .ecallUser s
  case detached =>
    have hfree : s.debugCatches = false := by
      rw [← Bool.not_eq_true, State.debugCatches_iff, hdetached]
      simp
    exact ⟨breakpoint_raises hfree, breakpoint_raises hfree⟩
  case off =>
    have hfree : s.debugCatches = false := by
      rw [← Bool.not_eq_true, State.debugCatches_iff]
      rcases hoff with ⟨hp, hd⟩ | ⟨hp, hd⟩ <;> simp [hp, hd]
    exact ⟨breakpoint_raises hfree, breakpoint_raises hfree⟩
  case caught =>
    have hcaught : breakpoint s = .refused .entersDebugMode := by
      rw [breakpoint, State.debugCatches_iff.mpr ⟨hattached, hon⟩]
      rfl
    exact ⟨hcaught, hcaught⟩
  case wfi =>
    change Raises (execWfi s) s 2
    rw [execWfi, hu, htw]
    exact raise_raises .illegal s

/-- Settles O52. -/
theorem mretReturns : Obligations.MretReturns := by
  intro s
  refine ⟨fun hm => ?_, fun hu => ?_⟩
  · have hx : exec .mret s = .next (leaveTrap s).retire := by
      change execMret s = _
      rw [execMret, if_pos hm]
    have hmprv : (s.hart.mstatus.mprv && s.hart.mstatus.mpp == .machine) =
        if s.hart.mstatus.mpp = .machine then s.hart.mstatus.mprv else false := by
      cases s.hart.mstatus.mpp <;> simp
    refine ⟨_, hx, by simp, by simp, by simp, by simp, ?_, ?_⟩
    · rw [← hmprv]
      simp
    · refine ⟨by simp, by simp, fun q => State.retire_reg (leaveTrap s) q, State.retire_hart_minstret (leaveTrap s), ?_⟩
      simp [Hart.sameMonitors, State.sameSystem]
  · change Raises (execMret s) s 2
    rw [execMret, hu]
    exact raise_raises .illegal s

/-! ### Fetch -/

theorem State.fetchVerdict_denied {s : State} {a : Word}
    (h : pmpAllows s.plat s.hart s.hart.priv .execute a = false ∨ s.plat.busFault .fetch a = true) :
    s.fetchVerdict a = .trap .fetchFault := by
  rw [State.fetchVerdict, if_pos (by simpa using h)]

theorem State.fetchVerdict_allowed {s : State} {a : Word}
    (h : ¬ (pmpAllows s.plat s.hart s.hart.priv .execute a = false ∨ s.plat.busFault .fetch a = true)) :
    s.fetchVerdict a = .allowed := by
  rw [State.fetchVerdict, if_neg (by simpa using h)]

theorem Code.ofParcels_short {first : Half} (h : isLong first = false) (x y : Half) :
    Code.ofParcels first x = Code.ofParcels first y := by
  rw [Code.ofParcels, Code.ofParcels, h]
  rfl

/-- The fetch where the checks of each parcel that it needs pass. -/
theorem State.fetch_of_passes {s : State} (hfirst : s.fetchVerdict s.hart.pc = .allowed)
    (hsecond : isLong (s.fetchParcel 0 s.hart.pc) = true →
      s.hart.pc + 2 ≠ 0 ∧ s.fetchVerdict (s.hart.pc + 2) = .allowed) :
    s.fetch = .code (Code.ofParcels (s.fetchParcel 0 s.hart.pc) (s.fetchParcel 2 (s.hart.pc + 2))) := by
  rw [State.fetch, hfirst]
  simp only
  split
  · next hlong =>
    obtain ⟨hwrap, hallowed⟩ := hsecond hlong
    rw [State.fetchSecond, if_neg hwrap, hallowed]
  · next hshort =>
    rw [Bool.not_eq_true] at hshort
    rw [Code.ofParcels_short hshort]

theorem runInstruction_of_trap {s : State} {c : Cause} (h : s.fetch = .trap c) : runInstruction s = raise c s := by
  rw [runInstruction, h]

theorem runInstruction_of_code {s : State} {c : Code} (h : s.fetch = .code c) : runInstruction s = runCode c s := by
  rw [runInstruction, h]

theorem runCode_of_ok {c : Code} {i : Instr} (h : decode c = .ok i) (s : State) :
    runCode c s = if s.runsStaleBranch i then .fault .staleBranch else exec i s := by
  rw [runCode, h]

/-- Settles O10: what the fetch gives, by its checks; then what the decoder says of the code. -/
theorem fetchAndDecodeTraps : Obligations.FetchAndDecodeTraps := by
  intro s i first denied passes seen
  have hcode (hp : passes) : runInstruction s = runCode seen s := by
    obtain ⟨hfirst, hsecond⟩ := hp
    exact runInstruction_of_code (State.fetch_of_passes (State.fetchVerdict_allowed hfirst) fun hlong =>
      ⟨(hsecond hlong).1, State.fetchVerdict_allowed (hsecond hlong).2⟩)
  refine ⟨fun hdenied => ?first, fun hfirst hlong hwrap hdenied => ?second, fun hfirst hlong hwrap => ?wraps,
    fun hp hrejected => ?illegal, fun hp hi hstale => ?runs, fun hp hi hstale => ?stops, step_of_takenInterrupt_none⟩
  case first =>
    have hfetch : s.fetch = .trap .fetchFault := by rw [State.fetch, State.fetchVerdict_denied hdenied]
    rw [runInstruction_of_trap hfetch]
    exact raise_raises .fetchFault s
  case second =>
    have hfetch : s.fetch = .trap .fetchFault := by
      rw [State.fetch, State.fetchVerdict_allowed hfirst]
      simp only
      rw [if_pos hlong, State.fetchSecond, if_neg hwrap, State.fetchVerdict_denied hdenied]
    rw [runInstruction_of_trap hfetch]
    exact raise_raises .fetchFault s
  case wraps =>
    have hfetch : s.fetch = .fault .fetchWraps := by
      rw [State.fetch, State.fetchVerdict_allowed hfirst]
      simp only
      rw [if_pos hlong, State.fetchSecond, if_pos hwrap]
    rw [runInstruction, hfetch]
  case illegal =>
    obtain ⟨e, he⟩ := hrejected
    rw [hcode hp, runCode, he]
    exact raise_raises .illegal s
  case runs => rw [hcode hp, runCode_of_ok hi, if_neg (by rw [hstale]; decide)]
  case stops => rw [hcode hp, runCode_of_ok hi, if_pos hstale]

/-- A byte outside the set W is fetched as memory holds it. -/
theorem State.fetchByte_of_nil {s : State} {k : Nat} {a : Word} (h : s.hart.heldValues a.toNat = []) :
    s.fetchByte k a = s.mem.read8 a := by
  rw [State.fetchByte, h]

/-- Any other byte is fetched as the inputs pick among its values. -/
theorem State.fetchByte_of_cons {s : State} {k : Nat} {a : Word} {old : Byte} {rest : List Byte}
    (h : s.hart.heldValues a.toNat = old :: rest) :
    s.fetchByte k a =
      (s.mem.read8 a :: old :: rest).getD (s.inputs.fetchPicks.getD k 0 % (rest.length + 2)) (s.mem.read8 a) := by
  rw [State.fetchByte, h]

/-- Settles O11. -/
theorem fetchSeesHeldValues : Obligations.FetchSeesHeldValues := by
  intro s k a
  refine ⟨State.fetchByte_of_nil, ?sees, fun v hv => ?chosen, fun hmemory => ?parcel, fun hdevice => ?device⟩
  case sees =>
    cases hheld : s.hart.heldValues a.toNat with
    | nil => rw [State.fetchByte_of_nil hheld]; exact List.mem_singleton_self _
    | cons old rest =>
      have hlt : s.inputs.fetchPicks.getD k 0 % (rest.length + 2) < (s.mem.read8 a :: old :: rest).length :=
        Nat.mod_lt _ (Nat.succ_pos _)
      rw [State.fetchByte_of_cons hheld, List.getD_eq_getElem _ _ hlt]
      exact List.getElem_mem hlt
  case chosen =>
    obtain ⟨n, hn⟩ := List.getElem?_of_mem hv
    refine ⟨{ s.inputs with fetchPicks := List.replicate (k + 1) n }, ?_⟩
    generalize hu : ({ s with script := { s.inputs with fetchPicks := List.replicate (k + 1) n } :: s.script } : State) = u
    have hpick : u.inputs.fetchPicks.getD k 0 = n := by
      rw [← hu]
      simp [State.inputs]
    have hsame : u.hart.heldValues a.toNat = s.hart.heldValues a.toNat := by rw [← hu]
    have hmem : u.mem = s.mem := by rw [← hu]
    cases hheld : s.hart.heldValues a.toNat with
    | nil =>
      rw [hheld, List.mem_singleton] at hv
      rw [State.fetchByte_of_nil (hsame.trans hheld), hmem, hv]
    | cons old rest =>
      rw [hheld] at hn
      have hlt : n < rest.length + 2 := (List.getElem?_eq_some_iff.mp hn).1
      rw [State.fetchByte_of_cons (hsame.trans hheld), hpick, Nat.mod_eq_of_lt hlt, hmem, List.getD_eq_getElem?_getD, hn]
      rfl
  case parcel =>
    rw [State.fetchParcel, hmemory]
    rfl
  case device =>
    rw [State.fetchParcel, hdevice, if_pos rfl, setWidth_ushiftRight_eq_extractLsb']

/-- A conditional branch of whose bytes one is in W. -/
theorem State.runsStaleBranch_of_held {s : State} {i : Instr} (hi : i.isConditionalBranch = true) {k : Nat} (hk : k < i.length)
    (hheld : s.hart.heldValues (s.hart.pc + BitVec.ofNat 32 k).toNat ≠ []) : s.runsStaleBranch i = true := by
  rw [State.runsStaleBranch, hi, Bool.true_and, List.any_eq_true]
  exact ⟨k, List.mem_range.mpr hk, by simpa using hheld⟩

theorem State.runsStaleBranch_of_nil {s : State} {i : Instr}
    (h : ∀ k, k < i.length → s.hart.heldValues (s.hart.pc + BitVec.ofNat 32 k).toNat = []) : s.runsStaleBranch i = false := by
  rw [State.runsStaleBranch, Bool.and_eq_false_iff]
  refine .inr (List.any_eq_false.mpr fun k hk => ?_)
  rw [h k (List.mem_range.mp hk)]
  decide

/-- Settles O12. -/
theorem staleBranchStops : Obligations.StaleBranchStops := by
  intro s c i k hi hbranch hk hheld
  rw [runCode_of_ok hi, if_pos (State.runsStaleBranch_of_held hbranch hk hheld)]

theorem State.fetchParcel_of_nil {s : State} {k : Nat} {a : Word} (hdevice : s.plat.isDevice a = false)
    (h0 : s.hart.heldValues a.toNat = []) (h1 : s.hart.heldValues (a + 1).toNat = []) :
    s.fetchParcel k a = s.mem.read16 a := by
  rw [State.fetchParcel, hdevice, if_neg (by decide), State.fetchByte_of_nil h0, State.fetchByte_of_nil h1]
  rfl

theorem State.takenInterrupt_eq_none {s : State} (h : s.pendingInterrupt = none ∨ s.inputs.interruptDeferred = true) :
    s.takenInterrupt = none := by
  rcases h with h | h
  · rw [State.takenInterrupt, h]
  · exact State.takenInterrupt_of_deferred h

/-- The length of what decodes is that of the first parcel. -/
theorem length_of_decode_ofParcels {first second : Half} {i : Instr} (h : decode (Code.ofParcels first second) = .ok i) :
    i.length = if isLong first then 4 else 2 := by
  have hlength := (encodeOfDecode _ i h).2.2
  cases hlong : isLong first with
  | false => rw [Code.ofParcels, hlong] at hlength; exact hlength
  | true => rw [Code.ofParcels, hlong] at hlength; exact hlength

/-- Settles O7: the fetch sees memory, as far as the instruction's length goes. -/
theorem stepRunsDecodedInstruction : Obligations.StepRunsDecodedInstruction := by
  intro s i hinterrupt hallowed hmemory hsecond hheld hi
  have hlength := length_of_decode_ofParcels hi
  have h0 : s.hart.heldValues s.hart.pc.toNat = [] := by simpa using hheld 0 (by rw [hlength]; split <;> decide)
  have h1 : s.hart.heldValues (s.hart.pc + 1).toNat = [] := hheld 1 (by rw [hlength]; split <;> decide)
  have hfirst : s.fetchParcel 0 s.hart.pc = s.mem.read16 s.hart.pc := State.fetchParcel_of_nil hmemory h0 h1
  have hfetch := State.fetch_of_passes hallowed fun hlong => by
    rw [hfirst] at hlong
    exact ⟨(hsecond hlong).1, (hsecond hlong).2.1⟩
  have hcode : Code.ofParcels (s.fetchParcel 0 s.hart.pc) (s.fetchParcel 2 (s.hart.pc + 2)) =
      Code.ofParcels (s.mem.read16 s.hart.pc) (s.mem.read16 (s.hart.pc + 2)) := by
    rw [hfirst]
    cases hlong : isLong (s.mem.read16 s.hart.pc) with
    | false => exact Code.ofParcels_short hlong _ _
    | true =>
      rw [hlong] at hlength
      have h2 : s.hart.heldValues (s.hart.pc + 2).toNat = [] := hheld 2 (by rw [hlength]; decide)
      have h3 : s.hart.heldValues (s.hart.pc + 2 + 1).toNat = [] := by
        rw [BitVec.add_assoc]
        exact hheld 3 (by rw [hlength]; decide)
      rw [State.fetchParcel_of_nil (hsecond hlong).2.2 h2 h3]
  rw [hcode] at hfetch
  rw [step_of_takenInterrupt_none (State.takenInterrupt_eq_none hinterrupt), runInstruction_of_code hfetch, runCode_of_ok hi,
    State.runsStaleBranch_of_nil hheld]
  rfl

/-! ### Reset -/

/-- What memory holds of given contents: the first cell that names the address. -/
theorem Memory.byteAt_ofCells (cells : List Host.Cell) {x : Nat} (hx : x < 2 ^ 32) :
    (Memory.ofCells cells).byteAt x = ((cells.find? fun c => c.1 == x).map Prod.snd).getD Memory.unlisted := by
  induction cells with
  | nil => rfl
  | cons cell rest ih =>
    obtain ⟨a, v⟩ := cell
    by_cases ha : a < 2 ^ 32
    · rw [Memory.byteAt_ofCells_cons a x v rest ha, ih]
      by_cases hxa : x = a
      · simp [hxa]
      · simp [hxa, Ne.symm hxa]
    · have hne : a ≠ x := by omega
      rw [Memory.ofCells, if_neg ha, ih]
      simp [hne]

/-- Settles O58. -/
theorem resetState : Obligations.ResetState := by
  intro plat pc0 pc1 mtvec s
  refine ⟨rfl, rfl, rfl, rfl, show (1 : BitVec 1) ≠ 0 by decide, fun h hh => ?hart, rfl, rfl, fun x hx => ?mem⟩
  case hart => rcases hh with rfl | rfl <;> exact ⟨rfl, rfl, rfl, rfl, rfl, rfl, fun _ => rfl, Hart.reg_zero _⟩
  case mem =>
    have hbyte := Memory.byteAt_ofCells plat.contents hx
    refine Eq.trans hbyte ?_
    cases plat.contents.find? fun c => c.1 == x <;> rfl

theorem Hart.reset_inv (plat : Platform) (id : BitVec 1) {pc mtvec : Word} (hpc : pc.getLsbD 0 = false)
    (hmtvec : mtvec.getLsbD 1 = false) : (Hart.reset id pc mtvec).Inv plat := by
  have hcounts : defaultResetMcountinhibit &&& ~~~ 5#32 = 0#32 := by decide
  refine ⟨hpc, BitVec.getLsbD_zero, hmtvec, BitVec.zero_and, BitVec.zero_and, BitVec.zero_and, hcounts, fun _ => rfl, fun n => ?_⟩
  have hcfg : (Hart.reset id pc mtvec).pmpcfg[n] = 0#8 := by simp [Hart.reset]
  rw [hcfg]
  exact ⟨rfl, by simp [pmpReserved, pmpMode]⟩

theorem State.resetWith_inv (plat : Platform) {pc0 pc1 mtvec : Word} (h0 : pc0.getLsbD 0 = false) (h1 : pc1.getLsbD 0 = false)
    (hmtvec : mtvec.getLsbD 1 = false) : (State.resetWith plat pc0 pc1 mtvec).Inv :=
  ⟨State.resetWith_mem_wf .., Hart.reset_inv plat 0 h0 hmtvec, Hart.reset_inv plat 1 h1 hmtvec, show (0 : BitVec 1) ≠ 1 by decide⟩

/-- Settles O59. -/
theorem resetHasInvariant : Obligations.ResetHasInvariant :=
  ⟨State.resetWith_inv defaultPlatform rfl rfl rfl, fun plat _ _ _ h0 h1 hmtvec => State.resetWith_inv plat h0 h1 hmtvec⟩

end Sys2Proof.Machine
end

section
/-!
PROOF. The pushes and pops of Zcmp (48 R384 to R388; 92 D22; 93 item 33). The accesses before the one that decides are taken off the list
one by one: `execCmPush_after` and `popGuarded_after` say what is left of the instruction after the first j of them.
-/

namespace Sys2Proof.Machine

/-! ### Slots -/

theorem slot_succ (top : Word) (k : Nat) : top - 4 * BitVec.ofNat 32 k - 4 = slot top k := by
  rw [slot, BitVec.ofNat_add k 1]
  bv_omega

/-- The slots of a list of registers are different words. -/
theorem slot_word_injective {top : Word} {j k : Nat} (hj : j < 13) (hk : k < 13) (haj : (slot top j).toNat % 4 = 0)
    (hak : (slot top k).toNat % 4 = 0) (h : (slot top j).toNat / 4 = (slot top k).toNat / 4) : j = k := by
  have he : (slot top j).toNat = (slot top k).toNat := by omega
  have hoffset (n : Nat) (hn : n < 13) : (4 * BitVec.ofNat 32 (n + 1) : Word).toNat = 4 * (n + 1) := by
    rw [BitVec.toNat_mul, BitVec.toNat_ofNat, show (4 : Word).toNat = 4 from rfl]
    omega
  have hsame : (4 * BitVec.ofNat 32 (j + 1) : Word) = 4 * BitVec.ofNat 32 (k + 1) := by
    have := BitVec.eq_of_toNat_eq he
    unfold slot at this
    bv_omega
  have := congrArg BitVec.toNat hsame
  rw [hoffset j hj, hoffset k hk] at this
  omega

theorem registerList_length_le (rlist : BitVec 4) : (registerList rlist).length ≤ 13 := by
  have := savedCount_le rlist
  rw [registerList_length]
  omega

theorem registerList_nodup (rlist : BitVec 4) : (registerList rlist).Nodup := by
  revert rlist
  decide

theorem zero_notMem_registerList (rlist : BitVec 4) : 0#5 ∉ registerList rlist := by
  revert rlist
  decide

/-! ### The stores of a push -/

section
variable {s t u : State}

/-- Stores after stores, of other bytes. -/
theorem State.storesInto.trans {new1 new2 : Nat → Option Byte} (hplat : u.plat = s.plat) (h : s.storesInto u false new1)
    (k : u.storesInto t false new2) (hdisjoint : ∀ x, (new2 x).isSome → new1 x = none) :
    s.storesInto t false fun x => (new1 x).or (new2 x) := by
  obtain ⟨hmem, hheld, hotherHeld, hregs, hpc, hminstret, hcontrol, hmonitor, hreservation, hlost, hkept⟩ := h
  obtain ⟨kmem, kheld, kotherHeld, kregs, kpc, kminstret, kcontrol, kmonitor, kreservation, klost, kkept⟩ := k
  have hremembers {g g' g'' : Hart} (e : g.remembers s new1 g') (f : g'.remembers u new2 g'') :
      g.remembers s (fun x => (new1 x).or (new2 x)) g'' := by
    intro x
    rw [f x, e x, hmem x]
    cases h2 : new2 x with
    | none => simp [h2]
    | some b =>
      have h1 : new1 x = none := hdisjoint x (by rw [h2]; rfl)
      simp [h1, h2]
  refine ⟨fun x => ?mem, hremembers hheld kheld, hremembers hotherHeld kotherHeld, fun q => (kregs q).trans (hregs q),
    kpc.trans hpc, kminstret.trans hminstret, hcontrol.trans kcontrol, kmonitor.trans hmonitor, ?reservation, fun x hx => ?lost,
    fun q hq hfar => ?kept⟩
  case mem =>
    have hx := hmem x
    have kx := kmem x
    cases h2 : new2 x with
    | none => simpa [h2, hx] using kx
    | some b =>
      have h1 : new1 x = none := hdisjoint x (by rw [h2]; rfl)
      simpa [h2, h1] using kx
  case reservation =>
    rcases kreservation with e | e
    · rw [e]
      exact hreservation
    · exact .inr e
  case lost =>
    cases h2 : new2 x.toNat with
    | some b =>
      have := klost x (by rw [h2]; rfl)
      rwa [hplat] at this
    | none =>
      have := hlost x (by simpa [h2] using hx)
      rcases kreservation with e | e
      · unfold Hart.reservedAt at this ⊢
        rwa [e]
      · simp [Hart.reservedAt, e]
  case kept =>
    refine kkept q (hkept q hq fun x hx => hfar x ?_) fun x hx => ?_
    · simp [hx]
    · rw [hplat]
      exact hfar x (by simp [hx])

theorem State.Stored.storeVerdict (hu : s.Stored u) (n : Nat) (a : Word) : u.storeVerdict n a = s.storeVerdict n a := by
  unfold State.storeVerdict State.verdict
  rw [hu.dataAllowed, hu.plat]

end

section
variable {s : State} {rlist : BitVec 4}

theorem State.pushedByte_succ {n : Nat} {r : RegIdx} (hr : (registerList rlist).reverse[n]? = some r) (x : Nat) :
    s.pushedByte rlist (n + 1) x = (s.pushedByte rlist n x).or (storedByte (slot (s.reg sp) n) (s.reg r) 4 x) := by
  simp only [State.pushedByte, List.range_succ, List.findSome?_append, List.findSome?_singleton, hr]

/-- A byte that the first stores write lies in the word of one of their slots. -/
theorem State.exists_of_pushedByte {n x : Nat} (h : (s.pushedByte rlist n x).isSome) :
    ∃ k r, k < n ∧ (storedByte (slot (s.reg sp) k) (s.reg r) 4 x).isSome := by
  obtain ⟨b, hb⟩ := Option.isSome_iff_exists.mp h
  obtain ⟨k, hk, hkb⟩ := List.exists_of_findSome?_eq_some hb
  split at hkb
  · next r _ => exact ⟨k, r, List.mem_range.mp hk, by rw [hkb]; rfl⟩
  · cases hkb

/-- What is left of a push after its first j stores, all of which pass: the machine has stored their bytes. -/
theorem execCmPush_after (spimm : BitVec 2) {j : Nat} (hj : j ≤ (registerList rlist).length) (hpush : s.canPush j) :
    ∃ u, s.Stored u ∧ s.storesInto u false (s.pushedByte rlist j) ∧
      execCmPush rlist spimm s = pushAll ((registerList rlist).reverse.drop j) (s.reg sp - 4 * BitVec.ofNat 32 j) u
        fun w => writeReg 2 sp (w.reg sp - stackAdjust rlist spimm) w := by
  induction j with
  | zero => exact ⟨s, .refl s, s.storesInto_none, by simp [execCmPush]⟩
  | succ j ih =>
    obtain ⟨u, hu, hinto, hx⟩ := ih (Nat.le_of_succ_le hj) fun k hk => hpush k (Nat.lt_succ_of_lt hk)
    obtain ⟨hstore, hdevice⟩ := hpush j (Nat.lt_succ_self j)
    have hlt : j < (registerList rlist).reverse.length := by rwa [List.length_reverse]
    have hslot : (slot (s.reg sp) j).toNat % 4 = 0 := hstore.1
    have hreg : u.reg ((registerList rlist).reverse[j]) = s.reg ((registerList rlist).reverse[j]) := hu.sameRegs _
    have hnext : u.Stored (u.store32 (slot (s.reg sp) j) (s.reg ((registerList rlist).reverse[j]))) :=
      State.store32_stored _ (by rw [hu.dataAllowed]; exact hstore.2.1) hslot
    have hwritten := u.store32_storesInto (s.reg ((registerList rlist).reverse[j])) hslot
    have hfree : u.plat.isDevice (slot (s.reg sp) j) = false := by rw [hu.plat]; exact hdevice
    rw [hfree] at hwritten
    refine ⟨_, hu.trans hnext, ?_, ?_⟩
    · have hboth := hinto.trans hu.plat hwritten fun x hx => ?_
      · simpa only [← State.pushedByte_succ (List.getElem?_eq_getElem hlt)] using hboth
      · by_contra hsome
        obtain ⟨k, r, hk, hkx⟩ := State.exists_of_pushedByte (Option.isSome_iff_ne_none.mpr hsome)
        have hkslot : (slot (s.reg sp) k).toNat % 4 = 0 := (hpush k (Nat.lt_succ_of_lt hk)).1.1
        have hwords := (word_eq_of_storedByte (.inr (.inr rfl)) hkslot hkx).symm.trans
          (word_eq_of_storedByte (.inr (.inr rfl)) hslot hx)
        have hle := registerList_length_le rlist
        have := slot_word_injective (by omega) (by omega) hkslot hslot hwords
        omega
    · rw [hx, List.drop_eq_getElem_cons hlt, pushAll, slot_succ, hu.storeVerdict, stackAccess,
        guarded_of_allowed (State.storeVerdict_of_canStore hstore), hfree, hreg]
      rfl

/-- Settles O39: after the last store, sp is written. -/
theorem pushStoresRegisters : Obligations.PushStoresRegisters := by
  intro s rlist spimm hpush
  obtain ⟨u, hu, hinto, hx⟩ := execCmPush_after spimm le_rfl hpush
  have hdone : execCmPush rlist spimm s = writeReg 2 sp (u.reg sp - stackAdjust rlist spimm) u := by
    rw [hx, List.drop_eq_nil_of_le (by rw [List.length_reverse]), pushAll]
  have hsp : u.reg sp = s.reg sp := hu.sameRegs sp
  change StoresWith (execCmPush rlist spimm s) s false _ _ _
  rw [hdone, hsp]
  refine finish_storesWith hu hinto (State.setReg_eq_withRegs ..) (fun q => ?_) 2
  rw [State.reg_setReg, show u.reg q = s.reg q from hu.sameRegs q]
  rfl

/-- The access of a push that decides, after those that pass. -/
theorem execCmPush_at (spimm : BitVec 2) {j : Nat} (hj : j < (registerList rlist).length) (hpush : s.canPush j) :
    ∃ u body, s.Stored u ∧ s.storesInto u false (s.pushedByte rlist j) ∧
      execCmPush rlist spimm s = stackAccess (s.storeVerdict 4 (slot (s.reg sp) j)) (slot (s.reg sp) j) u body := by
  obtain ⟨u, hu, hinto, hx⟩ := execCmPush_after spimm hj.le hpush
  have hlt : j < (registerList rlist).reverse.length := by rwa [List.length_reverse]
  rw [List.drop_eq_getElem_cons hlt, pushAll, slot_succ, hu.storeVerdict] at hx
  exact ⟨u, _, hu, hinto, hx⟩

/-! ### The loads of a pop -/

theorem popGuarded_after {regs : List RegIdx} {top : Word} (body : Result) {j : Nat} (hj : j ≤ regs.length)
    (hpop : s.canPop top j) :
    popGuarded regs top s body = popGuarded (regs.drop j) (top - 4 * BitVec.ofNat 32 j) s body := by
  induction j with
  | zero => simp
  | succ j ih =>
    obtain ⟨hload, hdevice⟩ := hpop j (Nat.lt_succ_self j)
    rw [ih (Nat.le_of_succ_le hj) fun k hk => hpop k (Nat.lt_succ_of_lt hk), List.drop_eq_getElem_cons hj, popGuarded, slot_succ,
      stackAccess, guarded_of_allowed (State.loadVerdict_of_canLoad hload), hdevice]
    rfl

/-- The access of a pop that decides, after those that pass. -/
theorem popThen_at (spimm : BitVec 2) {j : Nat} (hj : j < (registerList rlist).length)
    (hpop : s.canPop (s.reg sp + stackAdjust rlist spimm) j) (done : State → Result) :
    ∃ body, popThen rlist spimm s done =
      stackAccess (s.loadVerdict 4 (slot (s.reg sp + stackAdjust rlist spimm) j)) (slot (s.reg sp + stackAdjust rlist spimm) j) s
        body := by
  have hlt : j < (registerList rlist).reverse.length := by rwa [List.length_reverse]
  have hx : popThen rlist spimm s done = _ := popGuarded_after _ hlt.le hpop
  rw [List.drop_eq_getElem_cons hlt, popGuarded, slot_succ] at hx
  exact ⟨_, hx⟩

theorem popThen_of_canPop (spimm : BitVec 2) (hpop : s.canPop (s.reg sp + stackAdjust rlist spimm) (registerList rlist).length)
    (done : State → Result) :
    popThen rlist spimm s done = done ((popAll (registerList rlist).reverse (s.reg sp + stackAdjust rlist spimm) s).setReg sp
      (s.reg sp + stackAdjust rlist spimm)) := by
  rw [popThen, popGuarded_after _ (by rw [List.length_reverse]) hpop, List.drop_eq_nil_of_le (by rw [List.length_reverse]),
    popGuarded]

/-! ### The registers of a pop -/

theorem reg_popAll_of_notMem {regs : List RegIdx} {q : RegIdx} (hq : q ∉ regs) (a : Word) (s : State) :
    (popAll regs a s).reg q = s.reg q := by
  induction regs generalizing a s with
  | nil => rfl
  | cons r rest ih =>
    have hne : q ≠ r := fun e => hq (e ▸ List.mem_cons_self)
    rw [popAll, ih (fun h => hq (List.mem_cons_of_mem r h)), State.reg_setReg, if_neg fun h => hne h.1]

/-- A register of the list gets the word of its slot. -/
theorem reg_popAll_of_getElem {regs : List RegIdx} (hnodup : regs.Nodup) {q : RegIdx} (hq : q ≠ 0#5) {k : Nat}
    (hk : regs[k]? = some q) (a : Word) (s : State) : (popAll regs a s).reg q = s.load32 (slot a k) := by
  induction regs generalizing a s k with
  | nil => cases hk
  | cons r rest ih =>
    obtain ⟨hr, hrest⟩ := List.nodup_cons.mp hnodup
    have hslot : a - 4 = slot a 0 := by
      unfold slot
      bv_omega
    cases k with
    | zero =>
      cases hk
      rw [popAll, reg_popAll_of_notMem hr, State.reg_setReg, if_pos ⟨rfl, hq⟩, hslot]
    | succ k =>
      have hnext : slot (a - 4) k = slot a (k + 1) := by
        unfold slot
        rw [BitVec.ofNat_add (k + 1) 1]
        bv_omega
      rw [popAll, ih hrest hk, hnext]
      rfl

/-- Every register after the loads and the write of sp (48 R386). -/
theorem reg_popped {top : Word} (hpop : s.canPop top (registerList rlist).length) (q : RegIdx) :
    ((popAll (registerList rlist).reverse top s).setReg sp top).reg q = s.poppedReg rlist top q := by
  rw [State.reg_setReg, State.poppedReg]
  by_cases hsp : q = sp
  · rw [if_pos ⟨hsp, by decide⟩, if_pos hsp]
  · rw [if_neg fun h => hsp h.1, if_neg hsp]
    cases hfind : (List.range (registerList rlist).length).find? fun k => (registerList rlist).reverse[k]? == some q with
    | some k =>
      have hk : (registerList rlist).reverse[k]? = some q := by simpa using List.find?_some hfind
      have hlt : k < (registerList rlist).length := List.mem_range.mp (List.mem_of_find?_eq_some hfind)
      have hq : q ≠ 0#5 := by
        rintro rfl
        exact zero_notMem_registerList rlist (List.mem_reverse.mp (List.mem_of_getElem? hk))
      obtain ⟨hload, hdevice⟩ := hpop k hlt
      rw [reg_popAll_of_getElem (List.nodup_reverse.mpr (registerList_nodup rlist)) hq hk, State.load32_memory hdevice,
        Memory.read32_eq_wordAt s hload.1]
    | none =>
      refine reg_popAll_of_notMem (fun hmem => ?_) _ _
      obtain ⟨k, hk⟩ := List.getElem?_of_mem hmem
      have hlt : k < (registerList rlist).length := by
        rw [← List.length_reverse]
        exact (List.getElem?_eq_some_iff.mp hk).1
      have := List.find?_eq_none.mp hfind k (List.mem_range.mpr hlt)
      exact this (beq_iff_eq.mpr hk)

end

/-- Settles O41: the registers after the loads, then the end of each pop. -/
theorem popsRestoreRegisters : Obligations.PopsRestoreRegisters := by
  intro s rlist spimm top hpop f
  obtain ⟨regs, hregs⟩ := popAll_eq_withRegs (registerList rlist).reverse top s
  have hpopped := State.setReg_withRegs hregs sp top
  have hf : ∀ q, ((popAll (registerList rlist).reverse top s).setReg sp top).reg q = f q := reg_popped hpop
  have hra : ((popAll (registerList rlist).reverse top s).setReg sp top).reg ra = f 1 := hf ra
  refine ⟨?pop, ?popret, ?popretz⟩
  case pop =>
    change WritesRegs (popThen rlist spimm s (finish 2)) s f _
    rw [popThen_of_canPop spimm hpop]
    exact finish_writesRegs s hpopped hf 2
  case popret =>
    change WritesRegs (popThen rlist spimm s returnTo) s f _
    rw [popThen_of_canPop spimm hpop, returnTo, ← hra]
    exact finishAt_writesRegs s hpopped hf _
  case popretz =>
    change WritesRegs (popThen rlist spimm s fun t => returnTo (t.setReg a0 0)) s _ _
    rw [popThen_of_canPop spimm hpop, returnTo, State.reg_setReg, if_neg (by decide), ← hra]
    refine finishAt_writesRegs s (State.setReg_withRegs hpopped a0 0) (fun q => ?_) _
    rw [State.reg_setReg, hf]
    exact if_congr (and_iff_left (by decide)) rfl rfl

/-! ### An access that decides -/

theorem stackAccess_of_trap {v : Verdict} {c : Cause} (h : v = .trap c) (a : Word) (s : State) (body : Result) :
    stackAccess v a s body = raise c s := by
  rw [h]
  rfl

theorem stackAccess_at_device {v : Verdict} (h : v = .allowed) {a : Word} {s : State} (hdevice : s.plat.isDevice a = true)
    (body : Result) : stackAccess v a s body = .refused .zcmpAtDevice := by
  rw [stackAccess, guarded_of_allowed h, if_pos hdevice]

/-- The trap of an instruction after stores. -/
theorem enterTrap_trapped {s u : State} (hu : s.Stored u) (c : Cause) :
    s.hart.trapped (enterTrap (.exception c) u).hart c.code (s.hart.mtvec &&& 0xfffffffc) := by
  rw [enterTrap_hart, hu.hart]
  simp [Hart.trapped, Hart.sameRegs, Trap.mcause, Hart.trapTarget, Hart.trapBase, Hart.reg]

/-- Settles O40. -/
theorem zcmpStopsAtFault : Obligations.ZcmpStopsAtFault := by
  intro s rlist spimm j c hj top
  refine ⟨fun hpush hfault => ?_, fun hpop hfault => ?_⟩
  · obtain ⟨u, body, hu, hinto, hx⟩ := execCmPush_at spimm hj hpush
    exact ⟨enterTrap (.exception c) u, hx.trans (stackAccess_of_trap hfault ..), hinto.congr rfl rfl rfl,
      enterTrap_trapped hu c, hu.system⟩
  · have hraises (done : State → Result) : Raises (popThen rlist spimm s done) s c.code := by
      obtain ⟨body, hx⟩ := popThen_at spimm hj hpop done
      rw [hx.trans (stackAccess_of_trap hfault ..)]
      exact raise_raises c s
    exact ⟨hraises (finish 2), hraises returnTo, hraises fun t => returnTo (t.setReg a0 0)⟩

/-- Settles O24: the access at the device, and the check of a CSR instruction at a custom register. -/
theorem unspecifiedUnitsRefused : Obligations.UnspecifiedUnitsRefused := by
  intro s rd rs1 csr uimm rlist spimm j top
  refine ⟨fun hj => ⟨fun hpush hstore hdevice => ?push, fun hpop hload hdevice => ?pop⟩, fun hrange hpresent hmachine => ?custom⟩
  case push =>
    obtain ⟨u, body, hu, -, hx⟩ := execCmPush_at spimm hj hpush
    exact hx.trans (stackAccess_at_device (State.storeVerdict_of_canStore hstore) (by rw [hu.plat]; exact hdevice) body)
  case pop =>
    have hrefused (done : State → Result) : popThen rlist spimm s done = .refused .zcmpAtDevice := by
      obtain ⟨body, hx⟩ := popThen_at spimm hj hpop done
      exact hx.trans (stackAccess_at_device (State.loadVerdict_of_canLoad hload) hdevice body)
    intro i hi
    simp only [List.mem_cons, List.not_mem_nil, or_false] at hi
    rcases hi with rfl | rfl | rfl
    · exact hrefused (finish 2)
    · exact hrefused returnTo
    · exact hrefused fun t => returnTo (t.setReg a0 0)
  case custom =>
    have haddress : csr.toNat ∈ Csr.custom.addresses := by
      simp only [Csr.addresses, List.mem_range'_1]
      omega
    have hwritable : csrReadOnly csr = false := by
      rw [← Bool.not_eq_true, csrReadOnly_iff]
      omega
    have hrefused (w : Option (Word → Word)) : csrInstr csr rd w s = .refused .customCsr := by
      refine csrInstr_of_custom (csrVerdict_eq_access (csrOf_of_mem_addresses haddress hpresent) (fun huser => ?_) fun _ => hwritable) rd
      rw [hmachine] at huser
      cases huser
    intro i hi
    simp only [List.mem_cons, List.not_mem_nil, or_false] at hi
    rcases hi with rfl | rfl | rfl | rfl | rfl | rfl
    all_goals exact hrefused _

end Sys2Proof.Machine
end

section
/-!
PROOF. What a write of each CSR leaves for the next read, and that it leaves the others (10 R46 to R63, 60 R450). The PMP registers are the
only ones with a rule of their own: each byte of a configuration register is one entry, and so is each address register (log 14, log
15, log 40).
-/

namespace Sys2Proof.Machine

open BitVec (extractLsb'_append_eq_left extractLsb'_append_eq_right extractLsb'_append_eq_of_le
  extractLsb'_append_eq_of_add_le)

/-! ### Halves of a counter -/

theorem lowHalf_eq (c : BitVec 64) : lowHalf c = c.setWidth 32 := (setWidth_ushiftRight_eq_extractLsb' c 0 32).symm

theorem highHalf_eq (c : BitVec 64) : highHalf c = (c >>> 32).setWidth 32 := (setWidth_ushiftRight_eq_extractLsb' c 32 32).symm

theorem lowHalf_append (x y : Word) : lowHalf (x ++ y) = y := extractLsb'_append_eq_right

theorem highHalf_append (x y : Word) : highHalf (x ++ y) = x := extractLsb'_append_eq_left

theorem State.countCycle_of_stopped {s : State} (h : s.hart.mcountinhibit.getLsbD 0 = true) : s.countCycle = s := by
  rw [State.countCycle, Hart.passCycle, Hart.cycleStopped, if_pos h]

theorem State.countCycle_mcycle {s : State} (h : s.hart.mcountinhibit.getLsbD 0 = false) :
    s.countCycle.hart.mcycle = s.inputs.cycle := by
  rw [State.countCycle_hart, Hart.passCycle_mcycle, Hart.cycleStopped, h]
  rfl

/-! ### mip -/

theorem getLsbD_mipWord (x : Inputs) {k : Nat} (hk : k < 32) :
    (mipWord x).getLsbD k = if k = 3 then x.msip else if k = 7 then x.mtip else if k = 11 then x.meip else false := by
  simp only [mipWord, BitVec.getLsbD_append]
  interval_cases k <;> simp

/-! ### The entries of the PMP -/

section
variable {p : Platform} {h k : Hart} {n : Fin 16}

theorem pmpCfgOf_of_lt (hn : n.val < p.pmpCount) : pmpCfgOf p h n = h.pmpcfg[n] := by simp [pmpCfgOf, pmpEntry, hn]

theorem pmpAddrOf_of_lt (hn : n.val < p.pmpCount) : pmpAddrOf p h n = h.pmpaddr[n] := by simp [pmpAddrOf, pmpEntry, hn]

/-- An entry that software cannot write is the platform's. -/
theorem pmpEntry_of_ge (hn : p.pmpCount ≤ n.val) : pmpEntry p h n = pmpEntry p k n := by
  simp only [pmpEntry, if_neg (Nat.not_lt.mpr hn)]

theorem pmpCfgOf_of_ge (hn : p.pmpCount ≤ n.val) : pmpCfgOf p h n = pmpCfgOf p k n := by
  rw [pmpCfgOf, pmpEntry_of_ge hn]
  rfl

theorem pmpCfgOf_congr (hcfg : k.pmpcfg[n] = h.pmpcfg[n]) : pmpCfgOf p k n = pmpCfgOf p h n := by
  by_cases hn : n.val < p.pmpCount
  · rw [pmpCfgOf_of_lt hn, pmpCfgOf_of_lt hn, hcfg]
  · exact pmpCfgOf_of_ge (Nat.not_lt.mp hn)

end

/-! ### pmpcfg -/

section
variable (p : Platform) (h : Hart) (k : Fin 4) (v : Word)

/-- Byte j of pmpcfg k shows entry 4k + j. -/
theorem extractLsb'_pmpCfgView {j : Nat} (hj : j < 4) {n : Fin 16} (hn : n.val = 4 * k.val + j) :
    (pmpCfgView p h k).extractLsb' (8 * j) 8 = pmpCfgOf p h n := by
  rw [show n = ⟨4 * k.val + j, by omega⟩ from Fin.ext hn]
  interval_cases j
  · exact extractLsb'_append_eq_right
  · exact append_above extractLsb'_append_eq_right
  · exact append_above (append_above extractLsb'_append_eq_right)
  · exact append_above (append_above extractLsb'_append_eq_left)

/-- What a write of one configuration byte leaves in any entry. -/
theorem Hart.setPmpCfgByte_entry (m n : Fin 16) (b : Byte) :
    (h.setPmpCfgByte p m b).pmpcfg[n] =
      if m.val = n.val ∧ n.val < p.pmpCount ∧ h.pmpcfg[n].getLsbD 7 = false then pmpLegalize p h.pmpcfg[n] b
      else h.pmpcfg[n] := by
  by_cases hmn : m = n
  · subst hmn
    simp only [Hart.setPmpCfgByte_same, true_and]
  · rw [Hart.setPmpCfgByte_other p h b hmn, if_neg fun hc => hmn (Fin.ext hc.1)]

/-- What a write of pmpcfg k leaves in entry 4k + j. -/
theorem Hart.setPmpCfg_entry {j : Nat} (hj : j < 4) {n : Fin 16} (hn : n.val = 4 * k.val + j) :
    (h.setPmpCfg p k v).pmpcfg[n] =
      if n.val < p.pmpCount ∧ h.pmpcfg[n].getLsbD 7 = false then pmpLegalize p h.pmpcfg[n] (v.extractLsb' (8 * j) 8)
      else h.pmpcfg[n] := by
  interval_cases j <;> simp only [Hart.setPmpCfg, Hart.setPmpCfgByte_entry, hn] <;> simp

/-- A write of pmpcfg k that entry 4k + j ignores. -/
theorem pmpCfgOf_setPmpCfg_ignored {j : Nat} (hj : j < 4) {n : Fin 16} (hn : n.val = 4 * k.val + j)
    (hignored : p.pmpCount ≤ n.val ∨ (pmpCfgOf p h n).getLsbD 7 = true) :
    pmpCfgOf p (h.setPmpCfg p k v) n = pmpCfgOf p h n := by
  by_cases hlt : n.val < p.pmpCount
  · have hlocked : h.pmpcfg[n].getLsbD 7 = true := by
      rw [← pmpCfgOf_of_lt hlt]
      exact hignored.resolve_left (Nat.not_le.mpr hlt)
    rw [pmpCfgOf_of_lt hlt, pmpCfgOf_of_lt hlt, Hart.setPmpCfg_entry p h k v hj hn,
      if_neg fun hc => Bool.noConfusion (hlocked.symm.trans hc.2)]
  · exact pmpCfgOf_of_ge (Nat.not_lt.mp hlt)

/-- A write of pmpcfg k that entry 4k + j takes. -/
theorem pmpCfgOf_setPmpCfg_taken {j : Nat} (hj : j < 4) {n : Fin 16} (hn : n.val = 4 * k.val + j) (hlt : n.val < p.pmpCount)
    (hfree : (pmpCfgOf p h n).getLsbD 7 = false) :
    pmpCfgOf p (h.setPmpCfg p k v) n = pmpLegalize p (pmpCfgOf p h n) (v.extractLsb' (8 * j) 8) := by
  rw [pmpCfgOf_of_lt hlt] at hfree
  rw [pmpCfgOf_of_lt hlt, pmpCfgOf_of_lt hlt, Hart.setPmpCfg_entry p h k v hj hn, if_pos ⟨hlt, hfree⟩]

/-- A write of pmpcfg k leaves the entries of the others. -/
theorem Hart.setPmpCfg_other {n : Fin 16} (hn : n.val / 4 ≠ k.val) : (h.setPmpCfg p k v).pmpcfg[n] = h.pmpcfg[n] := by
  have hne (m : Fin 16) (hm : m.val / 4 = k.val) : m ≠ n := fun e => hn (e ▸ hm)
  rw [Hart.setPmpCfg, Hart.setPmpCfgByte_other _ _ _ (hne _ (by simp; omega)), Hart.setPmpCfgByte_other _ _ _ (hne _ (by simp; omega)),
    Hart.setPmpCfgByte_other _ _ _ (hne _ (by simp; omega)), Hart.setPmpCfgByte_other _ _ _ (hne _ (by simp))]

end

/-- The bits that a write cannot set play no part in whether a configuration is reserved. -/
theorem pmpReserved_and_mask (grain : Nat) (w : Byte) : pmpReserved grain (w &&& 0x9f) = pmpReserved grain w := by
  have hmode : pmpMode (w &&& 0x9f) = pmpMode w := by
    have hmask : (0x9f : Byte).extractLsb' 3 2 = BitVec.allOnes 2 := by decide
    rw [pmpMode, BitVec.extractLsb'_and, hmask, BitVec.and_allOnes, pmpMode]
  have h0 : (w &&& 0x9f).getLsbD 0 = w.getLsbD 0 := by simp
  have h1 : (w &&& 0x9f).getLsbD 1 = w.getLsbD 1 := by simp
  rw [pmpReserved, h0, h1, hmode, pmpReserved]

theorem pmpReserved_iff {grain : Nat} {w : Byte} :
    pmpReserved grain w = true ↔ (w.getLsbD 1 = true ∧ w.getLsbD 0 = false) ∨ (w.extractLsb' 3 2 = 2#2 ∧ 0 < grain) := by
  simp [pmpReserved, pmpMode]

/-! ### pmpaddr -/

section
variable (p : Platform) (h : Hart) (n : Fin 16) (v : Word)

/-- What a read of pmpaddr n shows, by the mode of the entry. -/
theorem pmpAddrView_eq :
    pmpAddrView p h n = if (pmpCfgOf p h n).getLsbD 4 = true then pmpNapot p.pmpGrain (pmpAddrOf p h n)
      else pmpFloor p.pmpGrain (pmpAddrOf p h n) := by
  unfold pmpAddrView pmpCfgOf pmpAddrOf
  cases pmpEntry p h n with
  | none => simp [pmpFloor]
  | some e => rfl

/-- The low bound of a locked TOR entry. -/
theorem pmpBoundLocked_iff :
    pmpBoundLocked p h n = true ↔
      ∃ m : Fin 16, m.val = n.val + 1 ∧ (pmpCfgOf p h m).getLsbD 7 = true ∧ (pmpCfgOf p h m).extractLsb' 3 2 = 1#2 := by
  simp only [pmpBoundLocked, pmpLocked, pmpMode, Bool.and_eq_true, decide_eq_true_eq, beq_iff_eq]
  constructor
  · rintro ⟨⟨hlt, hlocked⟩, hmode⟩
    exact ⟨n + 1, by rw [Fin.val_add]; simp; omega, hlocked, hmode⟩
  · rintro ⟨m, hm, hlocked, hmode⟩
    have hnext : n + 1 = m := by omega
    rw [hnext]
    exact ⟨⟨by omega, hlocked⟩, hmode⟩

theorem Hart.setPmpAddr_entry_other {m : Fin 16} (hne : m ≠ n) : (h.setPmpAddr p m v).pmpaddr[n] = h.pmpaddr[n] := by
  unfold Hart.setPmpAddr
  split
  · simp only [Fin.getElem_fin]
    exact Vector.getElem_set_ne _ _ fun e => hne (Fin.ext e)
  · rfl

/-- A write of pmpaddr n that the entry ignores. -/
theorem Hart.setPmpAddr_ignored
    (hignored : p.pmpCount ≤ n.val ∨ (pmpCfgOf p h n).getLsbD 7 = true ∨ pmpBoundLocked p h n = true) :
    h.setPmpAddr p n v = h := by
  unfold Hart.setPmpAddr
  refine if_neg fun hc => ?_
  simp only [Bool.and_eq_true, decide_eq_true_eq, Bool.not_eq_true'] at hc
  obtain ⟨⟨hlt, hfree⟩, hbound⟩ := hc
  rcases hignored with hge | hlocked | hlocked
  · omega
  · rw [pmpCfgOf_of_lt hlt, ← pmpLocked, hfree] at hlocked
    cases hlocked
  · rw [hbound] at hlocked
    cases hlocked

theorem Hart.setPmpAddr_held (hlt : n.val < p.pmpCount) (hfree : (pmpCfgOf p h n).getLsbD 7 = false)
    (hbound : ¬ pmpBoundLocked p h n = true) : (h.setPmpAddr p n v).pmpaddr[n] = v := by
  rw [pmpCfgOf_of_lt hlt] at hfree
  have hunlocked : pmpLocked h.pmpcfg[n] = false := hfree
  unfold Hart.setPmpAddr
  rw [if_pos (by rw [hunlocked]; simp [hlt, hbound])]
  simp

end

/-! ### A write of one register leaves the others -/

theorem Hart.csrWrite_sameBut (p : Platform) (c : Csr) (v : Word) (h : Hart) : h.sameBut c (h.csrWrite p c v) := by
  refine ⟨fun q => Hart.csrWrite_reg p c v h q, Hart.csrWrite_pc .., ⟨Hart.csrWrite_localMonitor .., Hart.csrWrite_reservation ..⟩,
    Hart.csrWrite_stale .., Hart.csrWrite_id .., Hart.csrWrite_priv .., Hart.csrWrite_dcsrEbreakM .., Hart.csrWrite_dcsrEbreakU .., ?_⟩
  cases c with
  | pmpcfg k =>
    have hentries (n : Fin 16) (hn : ∀ j : Fin 4, n.val / 4 = j.val → Csr.pmpcfg k ≠ .pmpcfg j) :
        (h.setPmpCfg p k v).pmpcfg[n] = h.pmpcfg[n] := Hart.setPmpCfg_other p h k v fun e => hn k e rfl
    simpa [Hart.csrWrite] using hentries
  | pmpaddr m =>
    have hentries (n : Fin 16) (hn : Csr.pmpaddr m ≠ .pmpaddr n) : (h.setPmpAddr p m v).pmpaddr[n] = h.pmpaddr[n] :=
      Hart.setPmpAddr_entry_other p h n v fun e => hn (congrArg Csr.pmpaddr e)
    simpa [Hart.csrWrite] using hentries
  | _ => simp [Hart.csrWrite]

/-! ### The obligation -/

/-- Settles O49: the reads; the other registers; each write and its read; then the entries of the PMP. -/
theorem csrWriteThenRead : Obligations.CsrWriteThenRead := by
  intro s v
  have hlow := lowHalf_eq
  have hhigh := highHalf_eq
  refine ⟨⟨rfl, rfl, rfl, rfl, rfl, rfl, rfl, rfl, rfl, hlow _, hhigh _, hlow _, hhigh _⟩,
    fun c => ⟨Hart.csrWrite_sameBut .., rfl, rfl, rfl, rfl, rfl, rfl⟩, rfl, rfl, rfl, rfl, rfl, rfl, rfl, rfl, rfl,
    fun hstopped => ?stopped, fun hcounting => ?counting, lowHalf_append .., highHalf_append .., highHalf_append ..,
    lowHalf_append .., rfl, rfl, rfl, rfl, fun c hc => ?fixed, rfl, rfl, rfl, rfl, rfl, fun hne => ?ids,
    fun k hk => getLsbD_mipWord s.inputs hk, fun k j n hj hn => ?pmpcfg, fun n => ?pmpaddr⟩
  case stopped =>
    rw [State.countCycle_of_stopped (s := csrWrite .mcycle v s) hstopped, State.countCycle_of_stopped (s := csrWrite .mcycleh v s) hstopped]
    exact ⟨lowHalf_append .., highHalf_append .., highHalf_append .., lowHalf_append ..⟩
  case counting =>
    have hlater (c : Csr) (hc : c = .mcycle ∨ c = .mcycleh) : (csrWrite c v s).countCycle.hart.mcycle = s.inputs.cycle := by
      rcases hc with rfl | rfl <;> exact State.countCycle_mcycle hcounting
    exact ⟨(hlow _).trans (congrArg (BitVec.setWidth 32) (hlater _ (.inl rfl))),
      (hhigh _).trans (congrArg (fun c : BitVec 64 => (c >>> 32).setWidth 32) (hlater _ (.inr rfl)))⟩
  case fixed =>
    simp only [List.mem_cons, List.not_mem_nil, or_false] at hc
    rcases hc with rfl | rfl | rfl | rfl | rfl | rfl | rfl <;> rfl
  case ids =>
    have hids : ∀ x y : BitVec 1, x ≠ y →
        (zeroExtend x = 0 ∧ zeroExtend y = 1) ∨ (zeroExtend x = 1 ∧ zeroExtend y = 0) := by decide
    exact hids s.hart.id s.other.id hne
  case pmpcfg =>
    intro w old new reserved
    have hold : old = pmpCfgOf s.plat s.hart n := extractLsb'_pmpCfgView s.plat s.hart k hj hn
    have hnew : new = pmpCfgOf s.plat (s.hart.setPmpCfg s.plat k v) n := extractLsb'_pmpCfgView s.plat _ k hj hn
    have hreserved : pmpReserved s.plat.pmpGrain (w &&& 0x9f) = true ↔ reserved := by
      rw [pmpReserved_and_mask, pmpReserved_iff]
    rw [hold, hnew]
    refine ⟨rfl, pmpCfgOf_setPmpCfg_ignored s.plat s.hart k v hj hn, fun hlt hfree => ?_⟩
    rw [pmpCfgOf_setPmpCfg_taken s.plat s.hart k v hj hn hlt hfree]
    refine ⟨fun hlegal => if_neg (mt hreserved.mp hlegal), fun hillegal => (if_pos (hreserved.mpr hillegal)).trans ?_⟩
    cases s.plat.pmpIllegalWrite <;> rfl
  case pmpaddr =>
    intro cfg bound held shows
    have hbound : pmpBoundLocked s.plat s.hart n = true ↔ bound := pmpBoundLocked_iff s.plat s.hart n
    have hcfg : pmpCfgOf s.plat (s.hart.setPmpAddr s.plat n v) n = cfg n :=
      pmpCfgOf_congr (by rw [Hart.setPmpAddr_pmpcfg])
    have hheld : held = pmpAddrOf s.plat (s.hart.setPmpAddr s.plat n v) n := rfl
    refine ⟨pmpAddrView_eq s.plat s.hart n, ?_, fun hignored => ?_, fun hlt hfree hnot => ?_⟩
    · have hview := pmpAddrView_eq s.plat (s.hart.setPmpAddr s.plat n v) n
      rw [hcfg] at hview
      exact hview
    · rw [← hbound] at hignored
      rw [hheld, Hart.setPmpAddr_ignored s.plat s.hart n v hignored]
    · rw [hheld, pmpAddrOf_of_lt hlt]
      exact Hart.setPmpAddr_held s.plat s.hart n v hlt hfree (mt hbound.mp hnot)

end Sys2Proof.Machine
end
